-- ==== Sys2Proof/Word.lean ====
section
/-!
DEFINITION. The two word types of the machine (00_scope.md R7): 8-bit bytes and 16-bit words. Every helper that
takes a word apart stands in Sys2Proof/Machine/Bits.lean.
-/

namespace Sys2Proof

/-- A byte of data or memory, or an 8-bit register (R7). -/
abbrev Byte := BitVec 8

/-- An address, or a 16-bit register (R7). -/
abbrev Word := BitVec 16

end Sys2Proof
end

