-- ==== Sys2Proof/Machine/Bits.lean ====
section
/-!
DEFINITION. Taking words apart and putting them together: the operators of 00_scope.md R11.
-/

namespace Sys2Proof.Machine

/-- `hi(w) = w[15:8]` (R11). -/
def hi (w : Word) : Byte := BitVec.extractLsb' 8 8 w

/-- `lo(w) = w[7:0]` (R11). -/
def lo (w : Word) : Byte := BitVec.extractLsb' 0 8 w

/-- `w16(h, l) = h*256 + l` (R11). -/
def w16 (h l : Byte) : Word := h ++ l

/-- `zext_16(b)`: the byte itself, as 16 bits (R11). -/
def zext16 (b : Byte) : Word := b.zeroExtend 16

/-- `sext_16(b)`: the byte read as two's complement and extended to 16 bits (R11). -/
def sext16 (b : Byte) : Word := b.signExtend 16

/-- A Boolean used as a number: 1 for true and 0 for false (R11). -/
def bit (b : Bool) : Nat := if b then 1 else 0

end Sys2Proof.Machine
end

