-- ==== Sys2Proof/Config.lean ====
section
/-!
DEFINITION. What an engine instance fixes: the named parameters of 00_scope.md R9 (their values and defaults, and the
default base-cycle tables of 30_encoding.md R86 and R87), and the model's one free value.
-/

namespace Sys2Proof

/-- The two CPUs (00_scope.md R1, R10). -/
inductive Profile where
  | m6502
  | m6800
  deriving DecidableEq, Repr

namespace Config

/-- `P_DECIMAL_6502` (R9): whether D = 1 makes ADC and SBC decimal. -/
inductive Decimal where
  | nmos
  | binary
  deriving DecidableEq, Repr

/-- `P_JSR_CONVENTION_6502` (R9): what JSR pushes and what RTS adds. -/
inductive JsrConvention where
  | hw
  | doc
  deriving DecidableEq, Repr

/-- `P_STACK_ORDER_6502` (R9): the byte order of a 16-bit push. -/
inductive StackOrder where
  | hiFirst
  | loFirst
  deriving DecidableEq, Repr

/-- `P_RESET_PC` (R9): where PC starts after reset. -/
inductive ResetPc where
  | zero
  | vector
  deriving DecidableEq, Repr

/-- `P_INTERRUPTS` (R9): whether the pins are read at all. -/
inductive Interrupts where
  | serviced
  | ignored
  deriving DecidableEq, Repr

/-- The parameters of 00_scope.md R9 but `P_PROFILE` (a field of State of its own) and `P_DAA_V` (`freeDaaV`).
State carries one such record, which no step changes (DESIGN CHOICE, log entry 3). -/
structure Params where
  /-- `P_DECIMAL_6502` -/
  decimal6502 : Decimal
  /-- `P_JSR_CONVENTION_6502` -/
  jsrConvention : JsrConvention
  /-- `P_STACK_ORDER_6502` -/
  stackOrder : StackOrder
  /-- `P_RESET_PC` -/
  resetPc : ResetPc
  /-- `P_UNIMPLEMENTED`: the defined opcode bytes that have no semantic action (30_encoding.md R93). -/
  unimplemented : List Byte
  /-- `P_CYCLES`, as the entries that differ from the default table (DESIGN CHOICE, log entry 8). -/
  cycles : List (Byte × Nat)
  /-- `P_INTERRUPTS` -/
  interrupts : Interrupts
  /-- `P_WAI_WAKE_CYCLES` -/
  waiWakeCycles : Nat
  deriving DecidableEq, Repr

/-- The defaults of 00_scope.md R9. -/
def defaults : Params where
  decimal6502 := .nmos
  jsrConvention := .hw
  stackOrder := .hiFirst
  resetPc := .zero
  unimplemented := []
  cycles := []
  interrupts := .serviced
  waiWakeCycles := 4

/-- The default base-cycle table of the M6502 (R86): sixteen rows by the high nibble of the opcode byte, sixteen columns by
the low one; 0 where the byte has no entry. -/
def cyclesM6502 : List (List Nat) :=
  [[7, 6, 0, 0, 0, 3, 5, 0, 3, 2, 2, 0, 0, 4, 6, 0],
   [2, 5, 0, 0, 0, 4, 6, 0, 2, 4, 0, 0, 0, 4, 7, 0],
   [6, 6, 0, 0, 3, 3, 5, 0, 4, 2, 2, 0, 4, 4, 6, 0],
   [2, 5, 0, 0, 0, 4, 6, 0, 2, 4, 0, 0, 0, 4, 7, 0],
   [6, 6, 0, 0, 0, 3, 5, 0, 3, 2, 2, 0, 3, 4, 6, 0],
   [2, 5, 0, 0, 0, 4, 6, 0, 2, 4, 0, 0, 0, 4, 7, 0],
   [6, 6, 0, 0, 0, 3, 5, 0, 4, 2, 2, 0, 5, 4, 6, 0],
   [2, 5, 0, 0, 0, 4, 6, 0, 2, 4, 0, 0, 0, 4, 7, 0],
   [0, 6, 0, 0, 3, 3, 3, 0, 2, 0, 2, 0, 4, 4, 4, 0],
   [2, 6, 0, 0, 4, 4, 4, 0, 2, 5, 2, 0, 0, 5, 0, 0],
   [2, 6, 2, 0, 3, 3, 3, 0, 2, 2, 2, 0, 4, 4, 4, 0],
   [2, 5, 0, 0, 4, 4, 4, 0, 2, 4, 2, 0, 4, 4, 4, 0],
   [2, 6, 0, 0, 3, 3, 5, 0, 2, 2, 2, 0, 4, 4, 6, 0],
   [2, 5, 0, 0, 0, 4, 6, 0, 2, 4, 0, 0, 0, 4, 7, 0],
   [2, 6, 0, 0, 3, 3, 5, 0, 2, 2, 2, 0, 4, 4, 6, 0],
   [2, 5, 0, 0, 0, 4, 6, 0, 2, 4, 0, 0, 0, 4, 7, 0]]

/-- The default base-cycle table of the M6800 (R87): sixteen rows by the high nibble of the opcode byte, sixteen columns by
the low one; 0 where the byte has no entry. -/
def cyclesM6800 : List (List Nat) :=
  [[0, 2, 0, 0, 0, 0, 2, 2, 4, 4, 2, 2, 2, 2, 2, 2],
   [2, 2, 0, 0, 0, 0, 2, 2, 0, 2, 0, 2, 0, 0, 0, 0],
   [4, 0, 4, 4, 4, 4, 4, 4, 4, 4, 4, 4, 4, 4, 4, 4],
   [4, 4, 4, 4, 4, 4, 4, 4, 0, 5, 0, 10, 0, 0, 9, 12],
   [2, 0, 0, 2, 2, 0, 2, 2, 2, 2, 2, 0, 2, 2, 0, 2],
   [2, 0, 0, 2, 2, 0, 2, 2, 2, 2, 2, 0, 2, 2, 0, 2],
   [7, 0, 0, 7, 7, 0, 7, 7, 7, 7, 7, 0, 7, 7, 4, 7],
   [6, 0, 0, 6, 6, 0, 6, 6, 6, 6, 6, 0, 6, 6, 3, 6],
   [2, 2, 2, 0, 2, 2, 2, 0, 2, 2, 2, 2, 3, 8, 3, 0],
   [3, 3, 3, 0, 3, 3, 3, 4, 3, 3, 3, 3, 4, 0, 4, 5],
   [5, 5, 5, 0, 5, 5, 5, 6, 5, 5, 5, 5, 6, 8, 6, 7],
   [4, 4, 4, 0, 4, 4, 4, 5, 4, 4, 4, 4, 5, 9, 5, 6],
   [2, 2, 2, 0, 2, 2, 2, 0, 2, 2, 2, 2, 0, 0, 3, 0],
   [3, 3, 3, 0, 3, 3, 3, 4, 3, 3, 3, 3, 0, 0, 4, 5],
   [5, 5, 5, 0, 5, 5, 5, 6, 5, 5, 5, 5, 0, 0, 6, 7],
   [4, 4, 4, 0, 4, 4, 4, 5, 4, 4, 4, 4, 0, 0, 5, 6]]

/-- The default of `P_CYCLES` for an opcode byte (R9, R86, R87). -/
def defaultCycles (p : Profile) (op : Byte) : Nat :=
  let table := match p with
    | .m6502 => cyclesM6502
    | .m6800 => cyclesM6800
  (table.getD (op.toNat / 16) []).getD (op.toNat % 16) 0

/-- `P_CYCLES` for an opcode byte: the record's own entry, or the default (R9). -/
def baseCycles (c : Params) (p : Profile) (op : Byte) : Nat :=
  (c.cycles.lookup op).getD (defaultCycles p op)

/-- `P_DAA_V` (R9, 42_alu.md R174): the V flag that the n-th execution of DAA leaves, a FREE VALUE. It has no body, so
nothing about it can be proved: a statement about it holds whichever Boolean each draw gives (log entry 4). -/
opaque freeDaaV : Nat → Bool

end Config

end Sys2Proof
end

