-- ==== Sys2Proof/Syntax.lean ====
section
/-!
DEFINITION. The instructions. An instruction is a mnemonic of a profile with one of the addressing modes its rows in
30_encoding.md R86 or R87 list ("(mnemonic × addressing mode)", R90): one constructor of Instr per mnemonic and profile
(56 of the M6502, 107 of the M6800), whose argument is one of the mode types below, so that every row of
spec/opcode_table.json is exactly one form (a constructor with one constructor of its mode type), and a mnemonic paired
with a mode it has no row for (R144, R152, 60_exceptions.md R503) cannot be written down. One constructor of Instr for each
of the 348 rows is more than Lean's runtime can hold (log entry 28). Operand fields are as R82 assembles them: a byte, or
a 16-bit word already in the profile's byte order.
-/

namespace Sys2Proof

/-- The modes of M6502 LDA, ADC, SBC, AND, ORA, EOR, CMP. -/
inductive Mode65.Read where
  /-- immediate: the operand byte itself (R133, R146) -/
  | imm (v : Byte)
  /-- zero page: the address byte (R134) -/
  | zpg (a : Byte)
  /-- zero page indexed by X: the base byte (R135) -/
  | zpx (b : Byte)
  /-- absolute: the address (R138) -/
  | abs (w : Word)
  /-- absolute indexed by X: the base (R136) -/
  | abx (w : Word)
  /-- absolute indexed by Y: the base (R136) -/
  | aby (w : Word)
  /-- indexed indirect `(zp,X)`: the base byte (R139) -/
  | inx (b : Byte)
  /-- indirect indexed `(zp),Y`: the pointer byte (R141) -/
  | iny (p : Byte)
  deriving DecidableEq, Repr

/-- The modes of M6502 STA. -/
inductive Mode65.Store where
  /-- zero page: the address byte (R134) -/
  | zpg (a : Byte)
  /-- zero page indexed by X: the base byte (R135) -/
  | zpx (b : Byte)
  /-- absolute: the address (R138) -/
  | abs (w : Word)
  /-- absolute indexed by X: the base (R136) -/
  | abx (w : Word)
  /-- absolute indexed by Y: the base (R136) -/
  | aby (w : Word)
  /-- indexed indirect `(zp,X)`: the base byte (R139) -/
  | inx (b : Byte)
  /-- indirect indexed `(zp),Y`: the pointer byte (R141) -/
  | iny (p : Byte)
  deriving DecidableEq, Repr

/-- The modes of M6502 LDX. -/
inductive Mode65.Ldx where
  /-- immediate: the operand byte itself (R133, R146) -/
  | imm (v : Byte)
  /-- zero page: the address byte (R134) -/
  | zpg (a : Byte)
  /-- zero page indexed by Y: the base byte (R135) -/
  | zpy (b : Byte)
  /-- absolute: the address (R138) -/
  | abs (w : Word)
  /-- absolute indexed by Y: the base (R136) -/
  | aby (w : Word)
  deriving DecidableEq, Repr

/-- The modes of M6502 LDY. -/
inductive Mode65.Ldy where
  /-- immediate: the operand byte itself (R133, R146) -/
  | imm (v : Byte)
  /-- zero page: the address byte (R134) -/
  | zpg (a : Byte)
  /-- zero page indexed by X: the base byte (R135) -/
  | zpx (b : Byte)
  /-- absolute: the address (R138) -/
  | abs (w : Word)
  /-- absolute indexed by X: the base (R136) -/
  | abx (w : Word)
  deriving DecidableEq, Repr

/-- The modes of M6502 STX. -/
inductive Mode65.Stx where
  /-- zero page: the address byte (R134) -/
  | zpg (a : Byte)
  /-- zero page indexed by Y: the base byte (R135) -/
  | zpy (b : Byte)
  /-- absolute: the address (R138) -/
  | abs (w : Word)
  deriving DecidableEq, Repr

/-- The modes of M6502 STY. -/
inductive Mode65.Sty where
  /-- zero page: the address byte (R134) -/
  | zpg (a : Byte)
  /-- zero page indexed by X: the base byte (R135) -/
  | zpx (b : Byte)
  /-- absolute: the address (R138) -/
  | abs (w : Word)
  deriving DecidableEq, Repr

/-- The modes of M6502 CPX, CPY. -/
inductive Mode65.Cpx where
  /-- immediate: the operand byte itself (R133, R146) -/
  | imm (v : Byte)
  /-- zero page: the address byte (R134) -/
  | zpg (a : Byte)
  /-- absolute: the address (R138) -/
  | abs (w : Word)
  deriving DecidableEq, Repr

/-- The modes of M6502 BIT. -/
inductive Mode65.Bit where
  /-- zero page: the address byte (R134) -/
  | zpg (a : Byte)
  /-- absolute: the address (R138) -/
  | abs (w : Word)
  deriving DecidableEq, Repr

/-- The modes of M6502 INC, DEC. -/
inductive Mode65.Inc where
  /-- zero page: the address byte (R134) -/
  | zpg (a : Byte)
  /-- zero page indexed by X: the base byte (R135) -/
  | zpx (b : Byte)
  /-- absolute: the address (R138) -/
  | abs (w : Word)
  /-- absolute indexed by X: the base (R136) -/
  | abx (w : Word)
  deriving DecidableEq, Repr

/-- The modes of M6502 ASL, LSR, ROL, ROR. -/
inductive Mode65.Shift where
  /-- the accumulator (R132) -/
  | acc
  /-- zero page: the address byte (R134) -/
  | zpg (a : Byte)
  /-- zero page indexed by X: the base byte (R135) -/
  | zpx (b : Byte)
  /-- absolute: the address (R138) -/
  | abs (w : Word)
  /-- absolute indexed by X: the base (R136) -/
  | abx (w : Word)
  deriving DecidableEq, Repr

/-- The modes of M6502 JMP. -/
inductive Mode65.Jmp where
  /-- absolute: the address (R138) -/
  | abs (w : Word)
  /-- absolute indirect: the pointer (R140) -/
  | ind (w : Word)
  deriving DecidableEq, Repr

/-- The modes of M6800 LDAA, LDAB, ADDA, ADDB, ADCA, ADCB, SUBA, SUBB, SBCA, SBCB, CMPA, CMPB, ANDA, ANDB, BITA, BITB, EORA, EORB, ORAA, ORAB. -/
inductive Mode68.Read where
  /-- immediate: the operand byte itself (R133, R146) -/
  | imm (v : Byte)
  /-- direct: the address byte (R148) -/
  | dir (a : Byte)
  /-- indexed by IX: the unsigned offset (R149) -/
  | idx (off : Byte)
  /-- extended: the address (R150) -/
  | ext (w : Word)
  deriving DecidableEq, Repr

/-- The modes of M6800 LDS, LDX, CPX. -/
inductive Mode68.Read16 where
  /-- 16-bit immediate (R146) -/
  | imm16 (v : Word)
  /-- direct: the address byte (R148) -/
  | dir (a : Byte)
  /-- indexed by IX: the unsigned offset (R149) -/
  | idx (off : Byte)
  /-- extended: the address (R150) -/
  | ext (w : Word)
  deriving DecidableEq, Repr

/-- The modes of M6800 STAA, STAB, STS, STX. -/
inductive Mode68.Store where
  /-- direct: the address byte (R148) -/
  | dir (a : Byte)
  /-- indexed by IX: the unsigned offset (R149) -/
  | idx (off : Byte)
  /-- extended: the address (R150) -/
  | ext (w : Word)
  deriving DecidableEq, Repr

/-- The modes of M6800 NEG, COM, CLR, TST, INC, DEC, ASL, ASR, LSR, ROL, ROR, JMP, JSR. -/
inductive Mode68.Mem where
  /-- indexed by IX: the unsigned offset (R149) -/
  | idx (off : Byte)
  /-- extended: the address (R150) -/
  | ext (w : Word)
  deriving DecidableEq, Repr

/-- The instructions of both profiles; each docstring gives the mnemonic, the opcode byte of each form and the rule. -/
inductive Instr where
  -- M6502: 43_m6502_load_store_transfer.md
  /-- LDA: IMM 0xA9, ZPG 0xA5, ZPX 0xB5, ABS 0xAD, ABX 0xBD, ABY 0xB9, INX 0xA1, INY 0xB1 (R200) -/
  | m6502Lda (m : Mode65.Read)
  /-- LDX: IMM 0xA2, ZPG 0xA6, ZPY 0xB6, ABS 0xAE, ABY 0xBE (R201) -/
  | m6502Ldx (m : Mode65.Ldx)
  /-- LDY: IMM 0xA0, ZPG 0xA4, ZPX 0xB4, ABS 0xAC, ABX 0xBC (R202) -/
  | m6502Ldy (m : Mode65.Ldy)
  /-- STA: ZPG 0x85, ZPX 0x95, ABS 0x8D, ABX 0x9D, ABY 0x99, INX 0x81, INY 0x91 (R203) -/
  | m6502Sta (m : Mode65.Store)
  /-- STX: ZPG 0x86, ZPY 0x96, ABS 0x8E (R204) -/
  | m6502Stx (m : Mode65.Stx)
  /-- STY: ZPG 0x84, ZPX 0x94, ABS 0x8C (R205) -/
  | m6502Sty (m : Mode65.Sty)
  /-- TAX: 0xAA (R206) -/
  | m6502Tax
  /-- TAY: 0xA8 (R207) -/
  | m6502Tay
  /-- TXA: 0x8A (R208) -/
  | m6502Txa
  /-- TYA: 0x98 (R209) -/
  | m6502Tya
  /-- TSX: 0xBA (R210) -/
  | m6502Tsx
  /-- TXS: 0x9A (R211) -/
  | m6502Txs
  -- M6502: 44_m6502_arith_logic.md
  /-- ADC: IMM 0x69, ZPG 0x65, ZPX 0x75, ABS 0x6D, ABX 0x7D, ABY 0x79, INX 0x61, INY 0x71 (R220) -/
  | m6502Adc (m : Mode65.Read)
  /-- SBC: IMM 0xE9, ZPG 0xE5, ZPX 0xF5, ABS 0xED, ABX 0xFD, ABY 0xF9, INX 0xE1, INY 0xF1 (R221) -/
  | m6502Sbc (m : Mode65.Read)
  /-- AND: IMM 0x29, ZPG 0x25, ZPX 0x35, ABS 0x2D, ABX 0x3D, ABY 0x39, INX 0x21, INY 0x31 (R222) -/
  | m6502And (m : Mode65.Read)
  /-- ORA: IMM 0x09, ZPG 0x05, ZPX 0x15, ABS 0x0D, ABX 0x1D, ABY 0x19, INX 0x01, INY 0x11 (R223) -/
  | m6502Ora (m : Mode65.Read)
  /-- EOR: IMM 0x49, ZPG 0x45, ZPX 0x55, ABS 0x4D, ABX 0x5D, ABY 0x59, INX 0x41, INY 0x51 (R224) -/
  | m6502Eor (m : Mode65.Read)
  /-- BIT: ZPG 0x24, ABS 0x2C (R225) -/
  | m6502Bit (m : Mode65.Bit)
  /-- CMP: IMM 0xC9, ZPG 0xC5, ZPX 0xD5, ABS 0xCD, ABX 0xDD, ABY 0xD9, INX 0xC1, INY 0xD1 (R226) -/
  | m6502Cmp (m : Mode65.Read)
  /-- CPX: IMM 0xE0, ZPG 0xE4, ABS 0xEC (R227) -/
  | m6502Cpx (m : Mode65.Cpx)
  /-- CPY: IMM 0xC0, ZPG 0xC4, ABS 0xCC (R228) -/
  | m6502Cpy (m : Mode65.Cpx)
  /-- INC: ZPG 0xE6, ZPX 0xF6, ABS 0xEE, ABX 0xFE (R229) -/
  | m6502Inc (m : Mode65.Inc)
  /-- DEC: ZPG 0xC6, ZPX 0xD6, ABS 0xCE, ABX 0xDE (R230) -/
  | m6502Dec (m : Mode65.Inc)
  /-- INX: 0xE8 (R231) -/
  | m6502Inx
  /-- INY: 0xC8 (R232) -/
  | m6502Iny
  /-- DEX: 0xCA (R233) -/
  | m6502Dex
  /-- DEY: 0x88 (R234) -/
  | m6502Dey
  /-- ASL: ACC 0x0A, ZPG 0x06, ZPX 0x16, ABS 0x0E, ABX 0x1E (R235) -/
  | m6502Asl (m : Mode65.Shift)
  /-- LSR: ACC 0x4A, ZPG 0x46, ZPX 0x56, ABS 0x4E, ABX 0x5E (R236) -/
  | m6502Lsr (m : Mode65.Shift)
  /-- ROL: ACC 0x2A, ZPG 0x26, ZPX 0x36, ABS 0x2E, ABX 0x3E (R237) -/
  | m6502Rol (m : Mode65.Shift)
  /-- ROR: ACC 0x6A, ZPG 0x66, ZPX 0x76, ABS 0x6E, ABX 0x7E (R238) -/
  | m6502Ror (m : Mode65.Shift)
  -- M6502: 45_m6502_control.md
  /-- BPL: 0x10 (R251) -/
  | m6502Bpl (off : Byte)
  /-- BMI: 0x30 (R252) -/
  | m6502Bmi (off : Byte)
  /-- BVC: 0x50 (R253) -/
  | m6502Bvc (off : Byte)
  /-- BVS: 0x70 (R254) -/
  | m6502Bvs (off : Byte)
  /-- BCC: 0x90 (R255) -/
  | m6502Bcc (off : Byte)
  /-- BCS: 0xB0 (R256) -/
  | m6502Bcs (off : Byte)
  /-- BNE: 0xD0 (R257) -/
  | m6502Bne (off : Byte)
  /-- BEQ: 0xF0 (R258) -/
  | m6502Beq (off : Byte)
  /-- JMP: ABS 0x4C, IND 0x6C (R259) -/
  | m6502Jmp (m : Mode65.Jmp)
  /-- JSR: 0x20 (R260) -/
  | m6502Jsr (w : Word)
  /-- RTS: 0x60 (R261) -/
  | m6502Rts
  /-- RTI: 0x40 (R262) -/
  | m6502Rti
  /-- BRK: 0x00 (R263) -/
  | m6502Brk
  /-- PHA: 0x48 (R264) -/
  | m6502Pha
  /-- PHP: 0x08 (R265) -/
  | m6502Php
  /-- PLA: 0x68 (R266) -/
  | m6502Pla
  /-- PLP: 0x28 (R267) -/
  | m6502Plp
  /-- CLC: 0x18 (R268) -/
  | m6502Clc
  /-- SEC: 0x38 (R269) -/
  | m6502Sec
  /-- CLI: 0x58 (R270) -/
  | m6502Cli
  /-- SEI: 0x78 (R271) -/
  | m6502Sei
  /-- CLD: 0xD8 (R272) -/
  | m6502Cld
  /-- SED: 0xF8 (R273) -/
  | m6502Sed
  /-- CLV: 0xB8 (R274) -/
  | m6502Clv
  /-- NOP: 0xEA (R275) -/
  | m6502Nop
  -- M6800: 46_m6800_load_store_transfer.md
  /-- LDAA: IMM 0x86, DIR 0x96, IDX 0xA6, EXT 0xB6 (R300) -/
  | m6800Ldaa (m : Mode68.Read)
  /-- LDAB: IMM 0xC6, DIR 0xD6, IDX 0xE6, EXT 0xF6 (R301) -/
  | m6800Ldab (m : Mode68.Read)
  /-- STAA: DIR 0x97, IDX 0xA7, EXT 0xB7 (R302) -/
  | m6800Staa (m : Mode68.Store)
  /-- STAB: DIR 0xD7, IDX 0xE7, EXT 0xF7 (R303) -/
  | m6800Stab (m : Mode68.Store)
  /-- LDS: IMM16 0x8E, DIR 0x9E, IDX 0xAE, EXT 0xBE (R304) -/
  | m6800Lds (m : Mode68.Read16)
  /-- LDX: IMM16 0xCE, DIR 0xDE, IDX 0xEE, EXT 0xFE (R305) -/
  | m6800Ldx (m : Mode68.Read16)
  /-- STS: DIR 0x9F, IDX 0xAF, EXT 0xBF (R306) -/
  | m6800Sts (m : Mode68.Store)
  /-- STX: DIR 0xDF, IDX 0xEF, EXT 0xFF (R307) -/
  | m6800Stx (m : Mode68.Store)
  /-- TAB: 0x16 (R308) -/
  | m6800Tab
  /-- TBA: 0x17 (R309) -/
  | m6800Tba
  /-- TAP: 0x06 (R310) -/
  | m6800Tap
  /-- TPA: 0x07 (R311) -/
  | m6800Tpa
  /-- TSX: 0x30 (R312) -/
  | m6800Tsx
  /-- TXS: 0x35 (R313) -/
  | m6800Txs
  /-- PSHA: 0x36 (R314) -/
  | m6800Psha
  /-- PSHB: 0x37 (R315) -/
  | m6800Pshb
  /-- PULA: 0x32 (R316) -/
  | m6800Pula
  /-- PULB: 0x33 (R317) -/
  | m6800Pulb
  /-- INX: 0x08 (R318) -/
  | m6800Inx
  /-- DEX: 0x09 (R319) -/
  | m6800Dex
  /-- INS: 0x31 (R320) -/
  | m6800Ins
  /-- DES: 0x34 (R321) -/
  | m6800Des
  -- M6800: 47_m6800_arith_logic.md
  /-- ADDA: IMM 0x8B, DIR 0x9B, IDX 0xAB, EXT 0xBB (R330) -/
  | m6800Adda (m : Mode68.Read)
  /-- ADDB: IMM 0xCB, DIR 0xDB, IDX 0xEB, EXT 0xFB (R331) -/
  | m6800Addb (m : Mode68.Read)
  /-- ADCA: IMM 0x89, DIR 0x99, IDX 0xA9, EXT 0xB9 (R332) -/
  | m6800Adca (m : Mode68.Read)
  /-- ADCB: IMM 0xC9, DIR 0xD9, IDX 0xE9, EXT 0xF9 (R333) -/
  | m6800Adcb (m : Mode68.Read)
  /-- ABA: 0x1B (R334) -/
  | m6800Aba
  /-- SUBA: IMM 0x80, DIR 0x90, IDX 0xA0, EXT 0xB0 (R335) -/
  | m6800Suba (m : Mode68.Read)
  /-- SUBB: IMM 0xC0, DIR 0xD0, IDX 0xE0, EXT 0xF0 (R336) -/
  | m6800Subb (m : Mode68.Read)
  /-- SBCA: IMM 0x82, DIR 0x92, IDX 0xA2, EXT 0xB2 (R337) -/
  | m6800Sbca (m : Mode68.Read)
  /-- SBCB: IMM 0xC2, DIR 0xD2, IDX 0xE2, EXT 0xF2 (R338) -/
  | m6800Sbcb (m : Mode68.Read)
  /-- SBA: 0x10 (R339) -/
  | m6800Sba
  /-- CMPA: IMM 0x81, DIR 0x91, IDX 0xA1, EXT 0xB1 (R340) -/
  | m6800Cmpa (m : Mode68.Read)
  /-- CMPB: IMM 0xC1, DIR 0xD1, IDX 0xE1, EXT 0xF1 (R341) -/
  | m6800Cmpb (m : Mode68.Read)
  /-- CBA: 0x11 (R342) -/
  | m6800Cba
  /-- CPX: IMM16 0x8C, DIR 0x9C, IDX 0xAC, EXT 0xBC (R343) -/
  | m6800Cpx (m : Mode68.Read16)
  /-- ANDA: IMM 0x84, DIR 0x94, IDX 0xA4, EXT 0xB4 (R344) -/
  | m6800Anda (m : Mode68.Read)
  /-- ANDB: IMM 0xC4, DIR 0xD4, IDX 0xE4, EXT 0xF4 (R345) -/
  | m6800Andb (m : Mode68.Read)
  /-- BITA: IMM 0x85, DIR 0x95, IDX 0xA5, EXT 0xB5 (R346) -/
  | m6800Bita (m : Mode68.Read)
  /-- BITB: IMM 0xC5, DIR 0xD5, IDX 0xE5, EXT 0xF5 (R347) -/
  | m6800Bitb (m : Mode68.Read)
  /-- EORA: IMM 0x88, DIR 0x98, IDX 0xA8, EXT 0xB8 (R348) -/
  | m6800Eora (m : Mode68.Read)
  /-- EORB: IMM 0xC8, DIR 0xD8, IDX 0xE8, EXT 0xF8 (R349) -/
  | m6800Eorb (m : Mode68.Read)
  /-- ORAA: IMM 0x8A, DIR 0x9A, IDX 0xAA, EXT 0xBA (R350) -/
  | m6800Oraa (m : Mode68.Read)
  /-- ORAB: IMM 0xCA, DIR 0xDA, IDX 0xEA, EXT 0xFA (R351) -/
  | m6800Orab (m : Mode68.Read)
  /-- DAA: 0x19 (R352) -/
  | m6800Daa
  /-- NEGA: 0x40 (R353) -/
  | m6800Nega
  /-- NEGB: 0x50 (R354) -/
  | m6800Negb
  /-- NEG: IDX 0x60, EXT 0x70 (R355) -/
  | m6800Neg (m : Mode68.Mem)
  /-- COMA: 0x43 (R356) -/
  | m6800Coma
  /-- COMB: 0x53 (R357) -/
  | m6800Comb
  /-- COM: IDX 0x63, EXT 0x73 (R358) -/
  | m6800Com (m : Mode68.Mem)
  /-- CLRA: 0x4F (R359) -/
  | m6800Clra
  /-- CLRB: 0x5F (R360) -/
  | m6800Clrb
  /-- CLR: IDX 0x6F, EXT 0x7F (R361) -/
  | m6800Clr (m : Mode68.Mem)
  /-- TSTA: 0x4D (R362) -/
  | m6800Tsta
  /-- TSTB: 0x5D (R363) -/
  | m6800Tstb
  /-- TST: IDX 0x6D, EXT 0x7D (R364) -/
  | m6800Tst (m : Mode68.Mem)
  /-- INCA: 0x4C (R365) -/
  | m6800Inca
  /-- INCB: 0x5C (R366) -/
  | m6800Incb
  /-- INC: IDX 0x6C, EXT 0x7C (R367) -/
  | m6800Inc (m : Mode68.Mem)
  /-- DECA: 0x4A (R368) -/
  | m6800Deca
  /-- DECB: 0x5A (R369) -/
  | m6800Decb
  /-- DEC: IDX 0x6A, EXT 0x7A (R370) -/
  | m6800Dec (m : Mode68.Mem)
  /-- ASLA: 0x48 (R371) -/
  | m6800Asla
  /-- ASLB: 0x58 (R372) -/
  | m6800Aslb
  /-- ASL: IDX 0x68, EXT 0x78 (R373) -/
  | m6800Asl (m : Mode68.Mem)
  /-- ASRA: 0x47 (R374) -/
  | m6800Asra
  /-- ASRB: 0x57 (R375) -/
  | m6800Asrb
  /-- ASR: IDX 0x67, EXT 0x77 (R376) -/
  | m6800Asr (m : Mode68.Mem)
  /-- LSRA: 0x44 (R377) -/
  | m6800Lsra
  /-- LSRB: 0x54 (R378) -/
  | m6800Lsrb
  /-- LSR: IDX 0x64, EXT 0x74 (R379) -/
  | m6800Lsr (m : Mode68.Mem)
  /-- ROLA: 0x49 (R380) -/
  | m6800Rola
  /-- ROLB: 0x59 (R381) -/
  | m6800Rolb
  /-- ROL: IDX 0x69, EXT 0x79 (R382) -/
  | m6800Rol (m : Mode68.Mem)
  /-- RORA: 0x46 (R383) -/
  | m6800Rora
  /-- RORB: 0x56 (R384) -/
  | m6800Rorb
  /-- ROR: IDX 0x66, EXT 0x76 (R385) -/
  | m6800Ror (m : Mode68.Mem)
  -- M6800: 48_m6800_control.md
  /-- BRA: 0x20 (R401) -/
  | m6800Bra (off : Byte)
  /-- BHI: 0x22 (R402) -/
  | m6800Bhi (off : Byte)
  /-- BLS: 0x23 (R403) -/
  | m6800Bls (off : Byte)
  /-- BCC: 0x24 (R404) -/
  | m6800Bcc (off : Byte)
  /-- BCS: 0x25 (R405) -/
  | m6800Bcs (off : Byte)
  /-- BNE: 0x26 (R406) -/
  | m6800Bne (off : Byte)
  /-- BEQ: 0x27 (R407) -/
  | m6800Beq (off : Byte)
  /-- BVC: 0x28 (R408) -/
  | m6800Bvc (off : Byte)
  /-- BVS: 0x29 (R409) -/
  | m6800Bvs (off : Byte)
  /-- BPL: 0x2A (R410) -/
  | m6800Bpl (off : Byte)
  /-- BMI: 0x2B (R411) -/
  | m6800Bmi (off : Byte)
  /-- BGE: 0x2C (R412) -/
  | m6800Bge (off : Byte)
  /-- BLT: 0x2D (R413) -/
  | m6800Blt (off : Byte)
  /-- BGT: 0x2E (R414) -/
  | m6800Bgt (off : Byte)
  /-- BLE: 0x2F (R415) -/
  | m6800Ble (off : Byte)
  /-- BSR: 0x8D (R416) -/
  | m6800Bsr (off : Byte)
  /-- JMP: IDX 0x6E, EXT 0x7E (R417) -/
  | m6800Jmp (m : Mode68.Mem)
  /-- JSR: IDX 0xAD, EXT 0xBD (R418) -/
  | m6800Jsr (m : Mode68.Mem)
  /-- RTS: 0x39 (R419) -/
  | m6800Rts
  /-- RTI: 0x3B (R420) -/
  | m6800Rti
  /-- SWI: 0x3F (R421) -/
  | m6800Swi
  /-- WAI: 0x3E (R422) -/
  | m6800Wai
  /-- NOP: 0x01 (R423) -/
  | m6800Nop
  /-- CLC: 0x0C (R424) -/
  | m6800Clc
  /-- SEC: 0x0D (R425) -/
  | m6800Sec
  /-- CLI: 0x0E (R426) -/
  | m6800Cli
  /-- SEI: 0x0F (R427) -/
  | m6800Sei
  /-- CLV: 0x0A (R428) -/
  | m6800Clv
  /-- SEV: 0x0B (R429) -/
  | m6800Sev
  deriving DecidableEq, Repr

end Sys2Proof
end

