-- ==== Sys2Proof/WellFormed.lean ====
section
/-!
DEFINITION. When an instruction is well formed for an engine. The operand widths and the modes of a mnemonic are in the
types of Instr's constructors; the one check left is that the instruction belongs to the opcode table of the engine's
profile (00_scope.md R10, 30_encoding.md R90).
-/

namespace Sys2Proof

/-- The profile whose opcode table has the instruction's row (30_encoding.md R84, R85). -/
def Instr.profile : Instr → Profile
  | .m6502Lda _ => .m6502
  | .m6502Ldx _ => .m6502
  | .m6502Ldy _ => .m6502
  | .m6502Sta _ => .m6502
  | .m6502Stx _ => .m6502
  | .m6502Sty _ => .m6502
  | .m6502Tax => .m6502
  | .m6502Tay => .m6502
  | .m6502Txa => .m6502
  | .m6502Tya => .m6502
  | .m6502Tsx => .m6502
  | .m6502Txs => .m6502
  | .m6502Adc _ => .m6502
  | .m6502Sbc _ => .m6502
  | .m6502And _ => .m6502
  | .m6502Ora _ => .m6502
  | .m6502Eor _ => .m6502
  | .m6502Bit _ => .m6502
  | .m6502Cmp _ => .m6502
  | .m6502Cpx _ => .m6502
  | .m6502Cpy _ => .m6502
  | .m6502Inc _ => .m6502
  | .m6502Dec _ => .m6502
  | .m6502Inx => .m6502
  | .m6502Iny => .m6502
  | .m6502Dex => .m6502
  | .m6502Dey => .m6502
  | .m6502Asl _ => .m6502
  | .m6502Lsr _ => .m6502
  | .m6502Rol _ => .m6502
  | .m6502Ror _ => .m6502
  | .m6502Bpl _ => .m6502
  | .m6502Bmi _ => .m6502
  | .m6502Bvc _ => .m6502
  | .m6502Bvs _ => .m6502
  | .m6502Bcc _ => .m6502
  | .m6502Bcs _ => .m6502
  | .m6502Bne _ => .m6502
  | .m6502Beq _ => .m6502
  | .m6502Jmp _ => .m6502
  | .m6502Jsr _ => .m6502
  | .m6502Rts => .m6502
  | .m6502Rti => .m6502
  | .m6502Brk => .m6502
  | .m6502Pha => .m6502
  | .m6502Php => .m6502
  | .m6502Pla => .m6502
  | .m6502Plp => .m6502
  | .m6502Clc => .m6502
  | .m6502Sec => .m6502
  | .m6502Cli => .m6502
  | .m6502Sei => .m6502
  | .m6502Cld => .m6502
  | .m6502Sed => .m6502
  | .m6502Clv => .m6502
  | .m6502Nop => .m6502
  | .m6800Ldaa _ => .m6800
  | .m6800Ldab _ => .m6800
  | .m6800Staa _ => .m6800
  | .m6800Stab _ => .m6800
  | .m6800Lds _ => .m6800
  | .m6800Ldx _ => .m6800
  | .m6800Sts _ => .m6800
  | .m6800Stx _ => .m6800
  | .m6800Tab => .m6800
  | .m6800Tba => .m6800
  | .m6800Tap => .m6800
  | .m6800Tpa => .m6800
  | .m6800Tsx => .m6800
  | .m6800Txs => .m6800
  | .m6800Psha => .m6800
  | .m6800Pshb => .m6800
  | .m6800Pula => .m6800
  | .m6800Pulb => .m6800
  | .m6800Inx => .m6800
  | .m6800Dex => .m6800
  | .m6800Ins => .m6800
  | .m6800Des => .m6800
  | .m6800Adda _ => .m6800
  | .m6800Addb _ => .m6800
  | .m6800Adca _ => .m6800
  | .m6800Adcb _ => .m6800
  | .m6800Aba => .m6800
  | .m6800Suba _ => .m6800
  | .m6800Subb _ => .m6800
  | .m6800Sbca _ => .m6800
  | .m6800Sbcb _ => .m6800
  | .m6800Sba => .m6800
  | .m6800Cmpa _ => .m6800
  | .m6800Cmpb _ => .m6800
  | .m6800Cba => .m6800
  | .m6800Cpx _ => .m6800
  | .m6800Anda _ => .m6800
  | .m6800Andb _ => .m6800
  | .m6800Bita _ => .m6800
  | .m6800Bitb _ => .m6800
  | .m6800Eora _ => .m6800
  | .m6800Eorb _ => .m6800
  | .m6800Oraa _ => .m6800
  | .m6800Orab _ => .m6800
  | .m6800Daa => .m6800
  | .m6800Nega => .m6800
  | .m6800Negb => .m6800
  | .m6800Neg _ => .m6800
  | .m6800Coma => .m6800
  | .m6800Comb => .m6800
  | .m6800Com _ => .m6800
  | .m6800Clra => .m6800
  | .m6800Clrb => .m6800
  | .m6800Clr _ => .m6800
  | .m6800Tsta => .m6800
  | .m6800Tstb => .m6800
  | .m6800Tst _ => .m6800
  | .m6800Inca => .m6800
  | .m6800Incb => .m6800
  | .m6800Inc _ => .m6800
  | .m6800Deca => .m6800
  | .m6800Decb => .m6800
  | .m6800Dec _ => .m6800
  | .m6800Asla => .m6800
  | .m6800Aslb => .m6800
  | .m6800Asl _ => .m6800
  | .m6800Asra => .m6800
  | .m6800Asrb => .m6800
  | .m6800Asr _ => .m6800
  | .m6800Lsra => .m6800
  | .m6800Lsrb => .m6800
  | .m6800Lsr _ => .m6800
  | .m6800Rola => .m6800
  | .m6800Rolb => .m6800
  | .m6800Rol _ => .m6800
  | .m6800Rora => .m6800
  | .m6800Rorb => .m6800
  | .m6800Ror _ => .m6800
  | .m6800Bra _ => .m6800
  | .m6800Bhi _ => .m6800
  | .m6800Bls _ => .m6800
  | .m6800Bcc _ => .m6800
  | .m6800Bcs _ => .m6800
  | .m6800Bne _ => .m6800
  | .m6800Beq _ => .m6800
  | .m6800Bvc _ => .m6800
  | .m6800Bvs _ => .m6800
  | .m6800Bpl _ => .m6800
  | .m6800Bmi _ => .m6800
  | .m6800Bge _ => .m6800
  | .m6800Blt _ => .m6800
  | .m6800Bgt _ => .m6800
  | .m6800Ble _ => .m6800
  | .m6800Bsr _ => .m6800
  | .m6800Jmp _ => .m6800
  | .m6800Jsr _ => .m6800
  | .m6800Rts => .m6800
  | .m6800Rti => .m6800
  | .m6800Swi => .m6800
  | .m6800Wai => .m6800
  | .m6800Nop => .m6800
  | .m6800Clc => .m6800
  | .m6800Sec => .m6800
  | .m6800Cli => .m6800
  | .m6800Sei => .m6800
  | .m6800Clv => .m6800
  | .m6800Sev => .m6800

/-- An engine of profile `p` may execute `i`: `i` is a row of the opcode table of `p` (30_encoding.md R90). -/
abbrev WellFormed (p : Profile) (i : Instr) : Prop := i.profile = p

end Sys2Proof
end

