-- ==== Sys2Proof/Decode.lean ====
section
/-!
DEFINITION. The decoder and, after it, the encoder (30_encoding.md). The decoder is two tables laid out as the opcode maps
R84 and R85 (sixteen rows by the high nibble, sixteen columns by the low one), so a byte has at most one entry (R80).
-/

namespace Sys2Proof

/-- What follows the opcode byte of an entry (R81, R82): nothing, one byte, or two bytes that form a word, low byte first
(M6502) or high byte first (M6800). -/
inductive Shape where
  | alone (i : Instr)
  | byte (f : Byte → Instr)
  | lowFirst (f : Word → Instr)
  | highFirst (f : Word → Instr)

/-- Row 0 of the M6502 opcode map (R84): bytes 0x00 to 0x0F. -/
def mapM6502Row0 : List (Option Shape) :=
  [some (.alone .m6502Brk), some (.byte (fun b => .m6502Ora (.inx b))), none, none, none,
   some (.byte (fun a => .m6502Ora (.zpg a))), some (.byte (fun a => .m6502Asl (.zpg a))), none,
   some (.alone .m6502Php), some (.byte (fun v => .m6502Ora (.imm v))), some (.alone (.m6502Asl .acc)), none,
   none, some (.lowFirst (fun w => .m6502Ora (.abs w))), some (.lowFirst (fun w => .m6502Asl (.abs w))), none]

/-- Row 1 of the M6502 opcode map (R84): bytes 0x10 to 0x1F. -/
def mapM6502Row1 : List (Option Shape) :=
  [some (.byte .m6502Bpl), some (.byte (fun p => .m6502Ora (.iny p))), none, none, none,
   some (.byte (fun b => .m6502Ora (.zpx b))), some (.byte (fun b => .m6502Asl (.zpx b))), none,
   some (.alone .m6502Clc), some (.lowFirst (fun w => .m6502Ora (.aby w))), none, none, none,
   some (.lowFirst (fun w => .m6502Ora (.abx w))), some (.lowFirst (fun w => .m6502Asl (.abx w))), none]

/-- Row 2 of the M6502 opcode map (R84): bytes 0x20 to 0x2F. -/
def mapM6502Row2 : List (Option Shape) :=
  [some (.lowFirst .m6502Jsr), some (.byte (fun b => .m6502And (.inx b))), none, none,
   some (.byte (fun a => .m6502Bit (.zpg a))), some (.byte (fun a => .m6502And (.zpg a))),
   some (.byte (fun a => .m6502Rol (.zpg a))), none, some (.alone .m6502Plp),
   some (.byte (fun v => .m6502And (.imm v))), some (.alone (.m6502Rol .acc)), none,
   some (.lowFirst (fun w => .m6502Bit (.abs w))), some (.lowFirst (fun w => .m6502And (.abs w))),
   some (.lowFirst (fun w => .m6502Rol (.abs w))), none]

/-- Row 3 of the M6502 opcode map (R84): bytes 0x30 to 0x3F. -/
def mapM6502Row3 : List (Option Shape) :=
  [some (.byte .m6502Bmi), some (.byte (fun p => .m6502And (.iny p))), none, none, none,
   some (.byte (fun b => .m6502And (.zpx b))), some (.byte (fun b => .m6502Rol (.zpx b))), none,
   some (.alone .m6502Sec), some (.lowFirst (fun w => .m6502And (.aby w))), none, none, none,
   some (.lowFirst (fun w => .m6502And (.abx w))), some (.lowFirst (fun w => .m6502Rol (.abx w))), none]

/-- Row 4 of the M6502 opcode map (R84): bytes 0x40 to 0x4F. -/
def mapM6502Row4 : List (Option Shape) :=
  [some (.alone .m6502Rti), some (.byte (fun b => .m6502Eor (.inx b))), none, none, none,
   some (.byte (fun a => .m6502Eor (.zpg a))), some (.byte (fun a => .m6502Lsr (.zpg a))), none,
   some (.alone .m6502Pha), some (.byte (fun v => .m6502Eor (.imm v))), some (.alone (.m6502Lsr .acc)), none,
   some (.lowFirst (fun w => .m6502Jmp (.abs w))), some (.lowFirst (fun w => .m6502Eor (.abs w))),
   some (.lowFirst (fun w => .m6502Lsr (.abs w))), none]

/-- Row 5 of the M6502 opcode map (R84): bytes 0x50 to 0x5F. -/
def mapM6502Row5 : List (Option Shape) :=
  [some (.byte .m6502Bvc), some (.byte (fun p => .m6502Eor (.iny p))), none, none, none,
   some (.byte (fun b => .m6502Eor (.zpx b))), some (.byte (fun b => .m6502Lsr (.zpx b))), none,
   some (.alone .m6502Cli), some (.lowFirst (fun w => .m6502Eor (.aby w))), none, none, none,
   some (.lowFirst (fun w => .m6502Eor (.abx w))), some (.lowFirst (fun w => .m6502Lsr (.abx w))), none]

/-- Row 6 of the M6502 opcode map (R84): bytes 0x60 to 0x6F. -/
def mapM6502Row6 : List (Option Shape) :=
  [some (.alone .m6502Rts), some (.byte (fun b => .m6502Adc (.inx b))), none, none, none,
   some (.byte (fun a => .m6502Adc (.zpg a))), some (.byte (fun a => .m6502Ror (.zpg a))), none,
   some (.alone .m6502Pla), some (.byte (fun v => .m6502Adc (.imm v))), some (.alone (.m6502Ror .acc)), none,
   some (.lowFirst (fun w => .m6502Jmp (.ind w))), some (.lowFirst (fun w => .m6502Adc (.abs w))),
   some (.lowFirst (fun w => .m6502Ror (.abs w))), none]

/-- Row 7 of the M6502 opcode map (R84): bytes 0x70 to 0x7F. -/
def mapM6502Row7 : List (Option Shape) :=
  [some (.byte .m6502Bvs), some (.byte (fun p => .m6502Adc (.iny p))), none, none, none,
   some (.byte (fun b => .m6502Adc (.zpx b))), some (.byte (fun b => .m6502Ror (.zpx b))), none,
   some (.alone .m6502Sei), some (.lowFirst (fun w => .m6502Adc (.aby w))), none, none, none,
   some (.lowFirst (fun w => .m6502Adc (.abx w))), some (.lowFirst (fun w => .m6502Ror (.abx w))), none]

/-- Row 8 of the M6502 opcode map (R84): bytes 0x80 to 0x8F. -/
def mapM6502Row8 : List (Option Shape) :=
  [none, some (.byte (fun b => .m6502Sta (.inx b))), none, none, some (.byte (fun a => .m6502Sty (.zpg a))),
   some (.byte (fun a => .m6502Sta (.zpg a))), some (.byte (fun a => .m6502Stx (.zpg a))), none,
   some (.alone .m6502Dey), none, some (.alone .m6502Txa), none, some (.lowFirst (fun w => .m6502Sty (.abs w))),
   some (.lowFirst (fun w => .m6502Sta (.abs w))), some (.lowFirst (fun w => .m6502Stx (.abs w))), none]

/-- Row 9 of the M6502 opcode map (R84): bytes 0x90 to 0x9F. -/
def mapM6502Row9 : List (Option Shape) :=
  [some (.byte .m6502Bcc), some (.byte (fun p => .m6502Sta (.iny p))), none, none,
   some (.byte (fun b => .m6502Sty (.zpx b))), some (.byte (fun b => .m6502Sta (.zpx b))),
   some (.byte (fun b => .m6502Stx (.zpy b))), none, some (.alone .m6502Tya),
   some (.lowFirst (fun w => .m6502Sta (.aby w))), some (.alone .m6502Txs), none, none,
   some (.lowFirst (fun w => .m6502Sta (.abx w))), none, none]

/-- Row A of the M6502 opcode map (R84): bytes 0xA0 to 0xAF. -/
def mapM6502RowA : List (Option Shape) :=
  [some (.byte (fun v => .m6502Ldy (.imm v))), some (.byte (fun b => .m6502Lda (.inx b))),
   some (.byte (fun v => .m6502Ldx (.imm v))), none, some (.byte (fun a => .m6502Ldy (.zpg a))),
   some (.byte (fun a => .m6502Lda (.zpg a))), some (.byte (fun a => .m6502Ldx (.zpg a))), none,
   some (.alone .m6502Tay), some (.byte (fun v => .m6502Lda (.imm v))), some (.alone .m6502Tax), none,
   some (.lowFirst (fun w => .m6502Ldy (.abs w))), some (.lowFirst (fun w => .m6502Lda (.abs w))),
   some (.lowFirst (fun w => .m6502Ldx (.abs w))), none]

/-- Row B of the M6502 opcode map (R84): bytes 0xB0 to 0xBF. -/
def mapM6502RowB : List (Option Shape) :=
  [some (.byte .m6502Bcs), some (.byte (fun p => .m6502Lda (.iny p))), none, none,
   some (.byte (fun b => .m6502Ldy (.zpx b))), some (.byte (fun b => .m6502Lda (.zpx b))),
   some (.byte (fun b => .m6502Ldx (.zpy b))), none, some (.alone .m6502Clv),
   some (.lowFirst (fun w => .m6502Lda (.aby w))), some (.alone .m6502Tsx), none,
   some (.lowFirst (fun w => .m6502Ldy (.abx w))), some (.lowFirst (fun w => .m6502Lda (.abx w))),
   some (.lowFirst (fun w => .m6502Ldx (.aby w))), none]

/-- Row C of the M6502 opcode map (R84): bytes 0xC0 to 0xCF. -/
def mapM6502RowC : List (Option Shape) :=
  [some (.byte (fun v => .m6502Cpy (.imm v))), some (.byte (fun b => .m6502Cmp (.inx b))), none, none,
   some (.byte (fun a => .m6502Cpy (.zpg a))), some (.byte (fun a => .m6502Cmp (.zpg a))),
   some (.byte (fun a => .m6502Dec (.zpg a))), none, some (.alone .m6502Iny),
   some (.byte (fun v => .m6502Cmp (.imm v))), some (.alone .m6502Dex), none,
   some (.lowFirst (fun w => .m6502Cpy (.abs w))), some (.lowFirst (fun w => .m6502Cmp (.abs w))),
   some (.lowFirst (fun w => .m6502Dec (.abs w))), none]

/-- Row D of the M6502 opcode map (R84): bytes 0xD0 to 0xDF. -/
def mapM6502RowD : List (Option Shape) :=
  [some (.byte .m6502Bne), some (.byte (fun p => .m6502Cmp (.iny p))), none, none, none,
   some (.byte (fun b => .m6502Cmp (.zpx b))), some (.byte (fun b => .m6502Dec (.zpx b))), none,
   some (.alone .m6502Cld), some (.lowFirst (fun w => .m6502Cmp (.aby w))), none, none, none,
   some (.lowFirst (fun w => .m6502Cmp (.abx w))), some (.lowFirst (fun w => .m6502Dec (.abx w))), none]

/-- Row E of the M6502 opcode map (R84): bytes 0xE0 to 0xEF. -/
def mapM6502RowE : List (Option Shape) :=
  [some (.byte (fun v => .m6502Cpx (.imm v))), some (.byte (fun b => .m6502Sbc (.inx b))), none, none,
   some (.byte (fun a => .m6502Cpx (.zpg a))), some (.byte (fun a => .m6502Sbc (.zpg a))),
   some (.byte (fun a => .m6502Inc (.zpg a))), none, some (.alone .m6502Inx),
   some (.byte (fun v => .m6502Sbc (.imm v))), some (.alone .m6502Nop), none,
   some (.lowFirst (fun w => .m6502Cpx (.abs w))), some (.lowFirst (fun w => .m6502Sbc (.abs w))),
   some (.lowFirst (fun w => .m6502Inc (.abs w))), none]

/-- Row F of the M6502 opcode map (R84): bytes 0xF0 to 0xFF. -/
def mapM6502RowF : List (Option Shape) :=
  [some (.byte .m6502Beq), some (.byte (fun p => .m6502Sbc (.iny p))), none, none, none,
   some (.byte (fun b => .m6502Sbc (.zpx b))), some (.byte (fun b => .m6502Inc (.zpx b))), none,
   some (.alone .m6502Sed), some (.lowFirst (fun w => .m6502Sbc (.aby w))), none, none, none,
   some (.lowFirst (fun w => .m6502Sbc (.abx w))), some (.lowFirst (fun w => .m6502Inc (.abx w))), none]

/-- The M6502 opcode map (R84). -/
def mapM6502 : List (List (Option Shape)) :=
  [mapM6502Row0, mapM6502Row1, mapM6502Row2, mapM6502Row3,
   mapM6502Row4, mapM6502Row5, mapM6502Row6, mapM6502Row7,
   mapM6502Row8, mapM6502Row9, mapM6502RowA, mapM6502RowB,
   mapM6502RowC, mapM6502RowD, mapM6502RowE, mapM6502RowF]

/-- Row 0 of the M6800 opcode map (R85): bytes 0x00 to 0x0F. -/
def mapM6800Row0 : List (Option Shape) :=
  [none, some (.alone .m6800Nop), none, none, none, none, some (.alone .m6800Tap), some (.alone .m6800Tpa),
   some (.alone .m6800Inx), some (.alone .m6800Dex), some (.alone .m6800Clv), some (.alone .m6800Sev),
   some (.alone .m6800Clc), some (.alone .m6800Sec), some (.alone .m6800Cli), some (.alone .m6800Sei)]

/-- Row 1 of the M6800 opcode map (R85): bytes 0x10 to 0x1F. -/
def mapM6800Row1 : List (Option Shape) :=
  [some (.alone .m6800Sba), some (.alone .m6800Cba), none, none, none, none, some (.alone .m6800Tab),
   some (.alone .m6800Tba), none, some (.alone .m6800Daa), none, some (.alone .m6800Aba), none, none, none, none]

/-- Row 2 of the M6800 opcode map (R85): bytes 0x20 to 0x2F. -/
def mapM6800Row2 : List (Option Shape) :=
  [some (.byte .m6800Bra), none, some (.byte .m6800Bhi), some (.byte .m6800Bls), some (.byte .m6800Bcc),
   some (.byte .m6800Bcs), some (.byte .m6800Bne), some (.byte .m6800Beq), some (.byte .m6800Bvc),
   some (.byte .m6800Bvs), some (.byte .m6800Bpl), some (.byte .m6800Bmi), some (.byte .m6800Bge),
   some (.byte .m6800Blt), some (.byte .m6800Bgt), some (.byte .m6800Ble)]

/-- Row 3 of the M6800 opcode map (R85): bytes 0x30 to 0x3F. -/
def mapM6800Row3 : List (Option Shape) :=
  [some (.alone .m6800Tsx), some (.alone .m6800Ins), some (.alone .m6800Pula), some (.alone .m6800Pulb),
   some (.alone .m6800Des), some (.alone .m6800Txs), some (.alone .m6800Psha), some (.alone .m6800Pshb), none,
   some (.alone .m6800Rts), none, some (.alone .m6800Rti), none, none, some (.alone .m6800Wai),
   some (.alone .m6800Swi)]

/-- Row 4 of the M6800 opcode map (R85): bytes 0x40 to 0x4F. -/
def mapM6800Row4 : List (Option Shape) :=
  [some (.alone .m6800Nega), none, none, some (.alone .m6800Coma), some (.alone .m6800Lsra), none,
   some (.alone .m6800Rora), some (.alone .m6800Asra), some (.alone .m6800Asla), some (.alone .m6800Rola),
   some (.alone .m6800Deca), none, some (.alone .m6800Inca), some (.alone .m6800Tsta), none,
   some (.alone .m6800Clra)]

/-- Row 5 of the M6800 opcode map (R85): bytes 0x50 to 0x5F. -/
def mapM6800Row5 : List (Option Shape) :=
  [some (.alone .m6800Negb), none, none, some (.alone .m6800Comb), some (.alone .m6800Lsrb), none,
   some (.alone .m6800Rorb), some (.alone .m6800Asrb), some (.alone .m6800Aslb), some (.alone .m6800Rolb),
   some (.alone .m6800Decb), none, some (.alone .m6800Incb), some (.alone .m6800Tstb), none,
   some (.alone .m6800Clrb)]

/-- Row 6 of the M6800 opcode map (R85): bytes 0x60 to 0x6F. -/
def mapM6800Row6 : List (Option Shape) :=
  [some (.byte (fun off => .m6800Neg (.idx off))), none, none, some (.byte (fun off => .m6800Com (.idx off))),
   some (.byte (fun off => .m6800Lsr (.idx off))), none, some (.byte (fun off => .m6800Ror (.idx off))),
   some (.byte (fun off => .m6800Asr (.idx off))), some (.byte (fun off => .m6800Asl (.idx off))),
   some (.byte (fun off => .m6800Rol (.idx off))), some (.byte (fun off => .m6800Dec (.idx off))), none,
   some (.byte (fun off => .m6800Inc (.idx off))), some (.byte (fun off => .m6800Tst (.idx off))),
   some (.byte (fun off => .m6800Jmp (.idx off))), some (.byte (fun off => .m6800Clr (.idx off)))]

/-- Row 7 of the M6800 opcode map (R85): bytes 0x70 to 0x7F. -/
def mapM6800Row7 : List (Option Shape) :=
  [some (.highFirst (fun w => .m6800Neg (.ext w))), none, none, some (.highFirst (fun w => .m6800Com (.ext w))),
   some (.highFirst (fun w => .m6800Lsr (.ext w))), none, some (.highFirst (fun w => .m6800Ror (.ext w))),
   some (.highFirst (fun w => .m6800Asr (.ext w))), some (.highFirst (fun w => .m6800Asl (.ext w))),
   some (.highFirst (fun w => .m6800Rol (.ext w))), some (.highFirst (fun w => .m6800Dec (.ext w))), none,
   some (.highFirst (fun w => .m6800Inc (.ext w))), some (.highFirst (fun w => .m6800Tst (.ext w))),
   some (.highFirst (fun w => .m6800Jmp (.ext w))), some (.highFirst (fun w => .m6800Clr (.ext w)))]

/-- Row 8 of the M6800 opcode map (R85): bytes 0x80 to 0x8F. -/
def mapM6800Row8 : List (Option Shape) :=
  [some (.byte (fun v => .m6800Suba (.imm v))), some (.byte (fun v => .m6800Cmpa (.imm v))),
   some (.byte (fun v => .m6800Sbca (.imm v))), none, some (.byte (fun v => .m6800Anda (.imm v))),
   some (.byte (fun v => .m6800Bita (.imm v))), some (.byte (fun v => .m6800Ldaa (.imm v))), none,
   some (.byte (fun v => .m6800Eora (.imm v))), some (.byte (fun v => .m6800Adca (.imm v))),
   some (.byte (fun v => .m6800Oraa (.imm v))), some (.byte (fun v => .m6800Adda (.imm v))),
   some (.highFirst (fun v => .m6800Cpx (.imm16 v))), some (.byte .m6800Bsr),
   some (.highFirst (fun v => .m6800Lds (.imm16 v))), none]

/-- Row 9 of the M6800 opcode map (R85): bytes 0x90 to 0x9F. -/
def mapM6800Row9 : List (Option Shape) :=
  [some (.byte (fun a => .m6800Suba (.dir a))), some (.byte (fun a => .m6800Cmpa (.dir a))),
   some (.byte (fun a => .m6800Sbca (.dir a))), none, some (.byte (fun a => .m6800Anda (.dir a))),
   some (.byte (fun a => .m6800Bita (.dir a))), some (.byte (fun a => .m6800Ldaa (.dir a))),
   some (.byte (fun a => .m6800Staa (.dir a))), some (.byte (fun a => .m6800Eora (.dir a))),
   some (.byte (fun a => .m6800Adca (.dir a))), some (.byte (fun a => .m6800Oraa (.dir a))),
   some (.byte (fun a => .m6800Adda (.dir a))), some (.byte (fun a => .m6800Cpx (.dir a))), none,
   some (.byte (fun a => .m6800Lds (.dir a))), some (.byte (fun a => .m6800Sts (.dir a)))]

/-- Row A of the M6800 opcode map (R85): bytes 0xA0 to 0xAF. -/
def mapM6800RowA : List (Option Shape) :=
  [some (.byte (fun off => .m6800Suba (.idx off))), some (.byte (fun off => .m6800Cmpa (.idx off))),
   some (.byte (fun off => .m6800Sbca (.idx off))), none, some (.byte (fun off => .m6800Anda (.idx off))),
   some (.byte (fun off => .m6800Bita (.idx off))), some (.byte (fun off => .m6800Ldaa (.idx off))),
   some (.byte (fun off => .m6800Staa (.idx off))), some (.byte (fun off => .m6800Eora (.idx off))),
   some (.byte (fun off => .m6800Adca (.idx off))), some (.byte (fun off => .m6800Oraa (.idx off))),
   some (.byte (fun off => .m6800Adda (.idx off))), some (.byte (fun off => .m6800Cpx (.idx off))),
   some (.byte (fun off => .m6800Jsr (.idx off))), some (.byte (fun off => .m6800Lds (.idx off))),
   some (.byte (fun off => .m6800Sts (.idx off)))]

/-- Row B of the M6800 opcode map (R85): bytes 0xB0 to 0xBF. -/
def mapM6800RowB : List (Option Shape) :=
  [some (.highFirst (fun w => .m6800Suba (.ext w))), some (.highFirst (fun w => .m6800Cmpa (.ext w))),
   some (.highFirst (fun w => .m6800Sbca (.ext w))), none, some (.highFirst (fun w => .m6800Anda (.ext w))),
   some (.highFirst (fun w => .m6800Bita (.ext w))), some (.highFirst (fun w => .m6800Ldaa (.ext w))),
   some (.highFirst (fun w => .m6800Staa (.ext w))), some (.highFirst (fun w => .m6800Eora (.ext w))),
   some (.highFirst (fun w => .m6800Adca (.ext w))), some (.highFirst (fun w => .m6800Oraa (.ext w))),
   some (.highFirst (fun w => .m6800Adda (.ext w))), some (.highFirst (fun w => .m6800Cpx (.ext w))),
   some (.highFirst (fun w => .m6800Jsr (.ext w))), some (.highFirst (fun w => .m6800Lds (.ext w))),
   some (.highFirst (fun w => .m6800Sts (.ext w)))]

/-- Row C of the M6800 opcode map (R85): bytes 0xC0 to 0xCF. -/
def mapM6800RowC : List (Option Shape) :=
  [some (.byte (fun v => .m6800Subb (.imm v))), some (.byte (fun v => .m6800Cmpb (.imm v))),
   some (.byte (fun v => .m6800Sbcb (.imm v))), none, some (.byte (fun v => .m6800Andb (.imm v))),
   some (.byte (fun v => .m6800Bitb (.imm v))), some (.byte (fun v => .m6800Ldab (.imm v))), none,
   some (.byte (fun v => .m6800Eorb (.imm v))), some (.byte (fun v => .m6800Adcb (.imm v))),
   some (.byte (fun v => .m6800Orab (.imm v))), some (.byte (fun v => .m6800Addb (.imm v))), none, none,
   some (.highFirst (fun v => .m6800Ldx (.imm16 v))), none]

/-- Row D of the M6800 opcode map (R85): bytes 0xD0 to 0xDF. -/
def mapM6800RowD : List (Option Shape) :=
  [some (.byte (fun a => .m6800Subb (.dir a))), some (.byte (fun a => .m6800Cmpb (.dir a))),
   some (.byte (fun a => .m6800Sbcb (.dir a))), none, some (.byte (fun a => .m6800Andb (.dir a))),
   some (.byte (fun a => .m6800Bitb (.dir a))), some (.byte (fun a => .m6800Ldab (.dir a))),
   some (.byte (fun a => .m6800Stab (.dir a))), some (.byte (fun a => .m6800Eorb (.dir a))),
   some (.byte (fun a => .m6800Adcb (.dir a))), some (.byte (fun a => .m6800Orab (.dir a))),
   some (.byte (fun a => .m6800Addb (.dir a))), none, none, some (.byte (fun a => .m6800Ldx (.dir a))),
   some (.byte (fun a => .m6800Stx (.dir a)))]

/-- Row E of the M6800 opcode map (R85): bytes 0xE0 to 0xEF. -/
def mapM6800RowE : List (Option Shape) :=
  [some (.byte (fun off => .m6800Subb (.idx off))), some (.byte (fun off => .m6800Cmpb (.idx off))),
   some (.byte (fun off => .m6800Sbcb (.idx off))), none, some (.byte (fun off => .m6800Andb (.idx off))),
   some (.byte (fun off => .m6800Bitb (.idx off))), some (.byte (fun off => .m6800Ldab (.idx off))),
   some (.byte (fun off => .m6800Stab (.idx off))), some (.byte (fun off => .m6800Eorb (.idx off))),
   some (.byte (fun off => .m6800Adcb (.idx off))), some (.byte (fun off => .m6800Orab (.idx off))),
   some (.byte (fun off => .m6800Addb (.idx off))), none, none, some (.byte (fun off => .m6800Ldx (.idx off))),
   some (.byte (fun off => .m6800Stx (.idx off)))]

/-- Row F of the M6800 opcode map (R85): bytes 0xF0 to 0xFF. -/
def mapM6800RowF : List (Option Shape) :=
  [some (.highFirst (fun w => .m6800Subb (.ext w))), some (.highFirst (fun w => .m6800Cmpb (.ext w))),
   some (.highFirst (fun w => .m6800Sbcb (.ext w))), none, some (.highFirst (fun w => .m6800Andb (.ext w))),
   some (.highFirst (fun w => .m6800Bitb (.ext w))), some (.highFirst (fun w => .m6800Ldab (.ext w))),
   some (.highFirst (fun w => .m6800Stab (.ext w))), some (.highFirst (fun w => .m6800Eorb (.ext w))),
   some (.highFirst (fun w => .m6800Adcb (.ext w))), some (.highFirst (fun w => .m6800Orab (.ext w))),
   some (.highFirst (fun w => .m6800Addb (.ext w))), none, none, some (.highFirst (fun w => .m6800Ldx (.ext w))),
   some (.highFirst (fun w => .m6800Stx (.ext w)))]

/-- The M6800 opcode map (R85). -/
def mapM6800 : List (List (Option Shape)) :=
  [mapM6800Row0, mapM6800Row1, mapM6800Row2, mapM6800Row3,
   mapM6800Row4, mapM6800Row5, mapM6800Row6, mapM6800Row7,
   mapM6800Row8, mapM6800Row9, mapM6800RowA, mapM6800RowB,
   mapM6800RowC, mapM6800RowD, mapM6800RowE, mapM6800RowF]

/-- The opcode map of a profile (R10). -/
def opcodeMap : Profile → List (List (Option Shape))
  | .m6502 => mapM6502
  | .m6800 => mapM6800

/-- The entry of an opcode byte, or none where the byte is absent from the table (R90, R91). -/
def lookup (p : Profile) (op : Byte) : Option Shape :=
  ((opcodeMap p).getD (op.toNat / 16) []).getD (op.toNat % 16) none

/-- The opcode byte has an entry (R90). -/
def isDefined (p : Profile) (op : Byte) : Bool := (lookup p op).isSome

/-- Why a sequence of bytes is no instruction. -/
inductive DecodeError where
  /-- the sequence is empty -/
  | noBytes
  /-- the opcode byte is absent from the profile's table (R91) -/
  | unknownOpcode (op : Byte)
  /-- the sequence ends before the operand bytes of a defined opcode (R81) -/
  | truncated (op : Byte)
  deriving DecidableEq, Repr

/-- The instruction at the head of a sequence of bytes, with the bytes after it (R80, R81, R82, R94). -/
def decode (p : Profile) : List Byte → Except DecodeError (Instr × List Byte)
  | [] => .error .noBytes
  | op :: rest =>
    match lookup p op with
    | none => .error (.unknownOpcode op)
    | some (.alone i) => .ok (i, rest)
    | some (.byte f) =>
      match rest with
      | b1 :: rest => .ok (f b1, rest)
      | [] => .error (.truncated op)
    | some (.lowFirst f) =>
      match rest with
      | b1 :: b2 :: rest => .ok (f (Machine.w16 b2 b1), rest)
      | _ => .error (.truncated op)
    | some (.highFirst f) =>
      match rest with
      | b1 :: b2 :: rest => .ok (f (Machine.w16 b1 b2), rest)
      | _ => .error (.truncated op)

/-- The instruction read from an opcode byte and the two bytes after it, or none where the opcode byte is absent from the
profile's table: what a tick decodes (40_execution_cycle.md R101). Bytes the instruction does not have are ignored. -/
def decodeAt (p : Profile) (op b1 b2 : Byte) : Option Instr :=
  match decode p [op, b1, b2] with
  | .ok (i, _) => some i
  | .error _ => none

/-- The three bytes of a table word: bits 7..0 are the opcode byte, bits 15..8 and 23..16 the operand bytes; the bits above
`nbits` are 0. -/
def tableBytes (nbits w : Nat) : List Byte :=
  let v := w % 2 ^ nbits
  [BitVec.ofNat 8 v, BitVec.ofNat 8 (v / 256), BitVec.ofNat 8 (v / 65536)]

/-- The other profile. -/
def otherProfile : Profile → Profile
  | .m6502 => .m6800
  | .m6800 => .m6502

/-- Which opcode table a table word is read with: that of the engine's own profile `p` where it has the word's opcode byte,
else that of the other profile where that one has it (DESIGN CHOICE, log entry 7: a word does not say which of the two
profiles' tables in spec/opcode_table.json it stands in). -/
def tableProfile (p : Profile) (nbits w : Nat) : Profile :=
  let op := BitVec.ofNat 8 (w % 2 ^ nbits)
  if isDefined p op then p else if isDefined (otherProfile p) op then otherProfile p else p

/-- The instruction of a row of spec/opcode_table.json, read by `decode` from the row's bits with zeros above them: with the
M6502 table (the profile of State.reset), or where that has no such byte with the M6800 table (log entry 7). -/
def decodeTableWord (nbits w : Nat) : Option Instr :=
  match decode (tableProfile .m6502 nbits w) (tableBytes nbits w) with
  | .ok (i, _) => some i
  | .error _ => none

/-- The bytes of an instruction: the opcode of its row (R86, R87) and its operand bytes (R81, R82). -/
def encode : Instr → List Byte
  | .m6502Lda (.imm v) => [0xA9, v]
  | .m6502Lda (.zpg a) => [0xA5, a]
  | .m6502Lda (.zpx b) => [0xB5, b]
  | .m6502Lda (.abs w) => [0xAD, Machine.lo w, Machine.hi w]
  | .m6502Lda (.abx w) => [0xBD, Machine.lo w, Machine.hi w]
  | .m6502Lda (.aby w) => [0xB9, Machine.lo w, Machine.hi w]
  | .m6502Lda (.inx b) => [0xA1, b]
  | .m6502Lda (.iny p) => [0xB1, p]
  | .m6502Ldx (.imm v) => [0xA2, v]
  | .m6502Ldx (.zpg a) => [0xA6, a]
  | .m6502Ldx (.zpy b) => [0xB6, b]
  | .m6502Ldx (.abs w) => [0xAE, Machine.lo w, Machine.hi w]
  | .m6502Ldx (.aby w) => [0xBE, Machine.lo w, Machine.hi w]
  | .m6502Ldy (.imm v) => [0xA0, v]
  | .m6502Ldy (.zpg a) => [0xA4, a]
  | .m6502Ldy (.zpx b) => [0xB4, b]
  | .m6502Ldy (.abs w) => [0xAC, Machine.lo w, Machine.hi w]
  | .m6502Ldy (.abx w) => [0xBC, Machine.lo w, Machine.hi w]
  | .m6502Sta (.zpg a) => [0x85, a]
  | .m6502Sta (.zpx b) => [0x95, b]
  | .m6502Sta (.abs w) => [0x8D, Machine.lo w, Machine.hi w]
  | .m6502Sta (.abx w) => [0x9D, Machine.lo w, Machine.hi w]
  | .m6502Sta (.aby w) => [0x99, Machine.lo w, Machine.hi w]
  | .m6502Sta (.inx b) => [0x81, b]
  | .m6502Sta (.iny p) => [0x91, p]
  | .m6502Stx (.zpg a) => [0x86, a]
  | .m6502Stx (.zpy b) => [0x96, b]
  | .m6502Stx (.abs w) => [0x8E, Machine.lo w, Machine.hi w]
  | .m6502Sty (.zpg a) => [0x84, a]
  | .m6502Sty (.zpx b) => [0x94, b]
  | .m6502Sty (.abs w) => [0x8C, Machine.lo w, Machine.hi w]
  | .m6502Tax => [0xAA]
  | .m6502Tay => [0xA8]
  | .m6502Txa => [0x8A]
  | .m6502Tya => [0x98]
  | .m6502Tsx => [0xBA]
  | .m6502Txs => [0x9A]
  | .m6502Adc (.imm v) => [0x69, v]
  | .m6502Adc (.zpg a) => [0x65, a]
  | .m6502Adc (.zpx b) => [0x75, b]
  | .m6502Adc (.abs w) => [0x6D, Machine.lo w, Machine.hi w]
  | .m6502Adc (.abx w) => [0x7D, Machine.lo w, Machine.hi w]
  | .m6502Adc (.aby w) => [0x79, Machine.lo w, Machine.hi w]
  | .m6502Adc (.inx b) => [0x61, b]
  | .m6502Adc (.iny p) => [0x71, p]
  | .m6502Sbc (.imm v) => [0xE9, v]
  | .m6502Sbc (.zpg a) => [0xE5, a]
  | .m6502Sbc (.zpx b) => [0xF5, b]
  | .m6502Sbc (.abs w) => [0xED, Machine.lo w, Machine.hi w]
  | .m6502Sbc (.abx w) => [0xFD, Machine.lo w, Machine.hi w]
  | .m6502Sbc (.aby w) => [0xF9, Machine.lo w, Machine.hi w]
  | .m6502Sbc (.inx b) => [0xE1, b]
  | .m6502Sbc (.iny p) => [0xF1, p]
  | .m6502And (.imm v) => [0x29, v]
  | .m6502And (.zpg a) => [0x25, a]
  | .m6502And (.zpx b) => [0x35, b]
  | .m6502And (.abs w) => [0x2D, Machine.lo w, Machine.hi w]
  | .m6502And (.abx w) => [0x3D, Machine.lo w, Machine.hi w]
  | .m6502And (.aby w) => [0x39, Machine.lo w, Machine.hi w]
  | .m6502And (.inx b) => [0x21, b]
  | .m6502And (.iny p) => [0x31, p]
  | .m6502Ora (.imm v) => [0x09, v]
  | .m6502Ora (.zpg a) => [0x05, a]
  | .m6502Ora (.zpx b) => [0x15, b]
  | .m6502Ora (.abs w) => [0x0D, Machine.lo w, Machine.hi w]
  | .m6502Ora (.abx w) => [0x1D, Machine.lo w, Machine.hi w]
  | .m6502Ora (.aby w) => [0x19, Machine.lo w, Machine.hi w]
  | .m6502Ora (.inx b) => [0x01, b]
  | .m6502Ora (.iny p) => [0x11, p]
  | .m6502Eor (.imm v) => [0x49, v]
  | .m6502Eor (.zpg a) => [0x45, a]
  | .m6502Eor (.zpx b) => [0x55, b]
  | .m6502Eor (.abs w) => [0x4D, Machine.lo w, Machine.hi w]
  | .m6502Eor (.abx w) => [0x5D, Machine.lo w, Machine.hi w]
  | .m6502Eor (.aby w) => [0x59, Machine.lo w, Machine.hi w]
  | .m6502Eor (.inx b) => [0x41, b]
  | .m6502Eor (.iny p) => [0x51, p]
  | .m6502Bit (.zpg a) => [0x24, a]
  | .m6502Bit (.abs w) => [0x2C, Machine.lo w, Machine.hi w]
  | .m6502Cmp (.imm v) => [0xC9, v]
  | .m6502Cmp (.zpg a) => [0xC5, a]
  | .m6502Cmp (.zpx b) => [0xD5, b]
  | .m6502Cmp (.abs w) => [0xCD, Machine.lo w, Machine.hi w]
  | .m6502Cmp (.abx w) => [0xDD, Machine.lo w, Machine.hi w]
  | .m6502Cmp (.aby w) => [0xD9, Machine.lo w, Machine.hi w]
  | .m6502Cmp (.inx b) => [0xC1, b]
  | .m6502Cmp (.iny p) => [0xD1, p]
  | .m6502Cpx (.imm v) => [0xE0, v]
  | .m6502Cpx (.zpg a) => [0xE4, a]
  | .m6502Cpx (.abs w) => [0xEC, Machine.lo w, Machine.hi w]
  | .m6502Cpy (.imm v) => [0xC0, v]
  | .m6502Cpy (.zpg a) => [0xC4, a]
  | .m6502Cpy (.abs w) => [0xCC, Machine.lo w, Machine.hi w]
  | .m6502Inc (.zpg a) => [0xE6, a]
  | .m6502Inc (.zpx b) => [0xF6, b]
  | .m6502Inc (.abs w) => [0xEE, Machine.lo w, Machine.hi w]
  | .m6502Inc (.abx w) => [0xFE, Machine.lo w, Machine.hi w]
  | .m6502Dec (.zpg a) => [0xC6, a]
  | .m6502Dec (.zpx b) => [0xD6, b]
  | .m6502Dec (.abs w) => [0xCE, Machine.lo w, Machine.hi w]
  | .m6502Dec (.abx w) => [0xDE, Machine.lo w, Machine.hi w]
  | .m6502Inx => [0xE8]
  | .m6502Iny => [0xC8]
  | .m6502Dex => [0xCA]
  | .m6502Dey => [0x88]
  | .m6502Asl .acc => [0x0A]
  | .m6502Asl (.zpg a) => [0x06, a]
  | .m6502Asl (.zpx b) => [0x16, b]
  | .m6502Asl (.abs w) => [0x0E, Machine.lo w, Machine.hi w]
  | .m6502Asl (.abx w) => [0x1E, Machine.lo w, Machine.hi w]
  | .m6502Lsr .acc => [0x4A]
  | .m6502Lsr (.zpg a) => [0x46, a]
  | .m6502Lsr (.zpx b) => [0x56, b]
  | .m6502Lsr (.abs w) => [0x4E, Machine.lo w, Machine.hi w]
  | .m6502Lsr (.abx w) => [0x5E, Machine.lo w, Machine.hi w]
  | .m6502Rol .acc => [0x2A]
  | .m6502Rol (.zpg a) => [0x26, a]
  | .m6502Rol (.zpx b) => [0x36, b]
  | .m6502Rol (.abs w) => [0x2E, Machine.lo w, Machine.hi w]
  | .m6502Rol (.abx w) => [0x3E, Machine.lo w, Machine.hi w]
  | .m6502Ror .acc => [0x6A]
  | .m6502Ror (.zpg a) => [0x66, a]
  | .m6502Ror (.zpx b) => [0x76, b]
  | .m6502Ror (.abs w) => [0x6E, Machine.lo w, Machine.hi w]
  | .m6502Ror (.abx w) => [0x7E, Machine.lo w, Machine.hi w]
  | .m6502Bpl off => [0x10, off]
  | .m6502Bmi off => [0x30, off]
  | .m6502Bvc off => [0x50, off]
  | .m6502Bvs off => [0x70, off]
  | .m6502Bcc off => [0x90, off]
  | .m6502Bcs off => [0xB0, off]
  | .m6502Bne off => [0xD0, off]
  | .m6502Beq off => [0xF0, off]
  | .m6502Jmp (.abs w) => [0x4C, Machine.lo w, Machine.hi w]
  | .m6502Jmp (.ind w) => [0x6C, Machine.lo w, Machine.hi w]
  | .m6502Jsr w => [0x20, Machine.lo w, Machine.hi w]
  | .m6502Rts => [0x60]
  | .m6502Rti => [0x40]
  | .m6502Brk => [0x00]
  | .m6502Pha => [0x48]
  | .m6502Php => [0x08]
  | .m6502Pla => [0x68]
  | .m6502Plp => [0x28]
  | .m6502Clc => [0x18]
  | .m6502Sec => [0x38]
  | .m6502Cli => [0x58]
  | .m6502Sei => [0x78]
  | .m6502Cld => [0xD8]
  | .m6502Sed => [0xF8]
  | .m6502Clv => [0xB8]
  | .m6502Nop => [0xEA]
  | .m6800Ldaa (.imm v) => [0x86, v]
  | .m6800Ldaa (.dir a) => [0x96, a]
  | .m6800Ldaa (.idx off) => [0xA6, off]
  | .m6800Ldaa (.ext w) => [0xB6, Machine.hi w, Machine.lo w]
  | .m6800Ldab (.imm v) => [0xC6, v]
  | .m6800Ldab (.dir a) => [0xD6, a]
  | .m6800Ldab (.idx off) => [0xE6, off]
  | .m6800Ldab (.ext w) => [0xF6, Machine.hi w, Machine.lo w]
  | .m6800Staa (.dir a) => [0x97, a]
  | .m6800Staa (.idx off) => [0xA7, off]
  | .m6800Staa (.ext w) => [0xB7, Machine.hi w, Machine.lo w]
  | .m6800Stab (.dir a) => [0xD7, a]
  | .m6800Stab (.idx off) => [0xE7, off]
  | .m6800Stab (.ext w) => [0xF7, Machine.hi w, Machine.lo w]
  | .m6800Lds (.imm16 v) => [0x8E, Machine.hi v, Machine.lo v]
  | .m6800Lds (.dir a) => [0x9E, a]
  | .m6800Lds (.idx off) => [0xAE, off]
  | .m6800Lds (.ext w) => [0xBE, Machine.hi w, Machine.lo w]
  | .m6800Ldx (.imm16 v) => [0xCE, Machine.hi v, Machine.lo v]
  | .m6800Ldx (.dir a) => [0xDE, a]
  | .m6800Ldx (.idx off) => [0xEE, off]
  | .m6800Ldx (.ext w) => [0xFE, Machine.hi w, Machine.lo w]
  | .m6800Sts (.dir a) => [0x9F, a]
  | .m6800Sts (.idx off) => [0xAF, off]
  | .m6800Sts (.ext w) => [0xBF, Machine.hi w, Machine.lo w]
  | .m6800Stx (.dir a) => [0xDF, a]
  | .m6800Stx (.idx off) => [0xEF, off]
  | .m6800Stx (.ext w) => [0xFF, Machine.hi w, Machine.lo w]
  | .m6800Tab => [0x16]
  | .m6800Tba => [0x17]
  | .m6800Tap => [0x06]
  | .m6800Tpa => [0x07]
  | .m6800Tsx => [0x30]
  | .m6800Txs => [0x35]
  | .m6800Psha => [0x36]
  | .m6800Pshb => [0x37]
  | .m6800Pula => [0x32]
  | .m6800Pulb => [0x33]
  | .m6800Inx => [0x08]
  | .m6800Dex => [0x09]
  | .m6800Ins => [0x31]
  | .m6800Des => [0x34]
  | .m6800Adda (.imm v) => [0x8B, v]
  | .m6800Adda (.dir a) => [0x9B, a]
  | .m6800Adda (.idx off) => [0xAB, off]
  | .m6800Adda (.ext w) => [0xBB, Machine.hi w, Machine.lo w]
  | .m6800Addb (.imm v) => [0xCB, v]
  | .m6800Addb (.dir a) => [0xDB, a]
  | .m6800Addb (.idx off) => [0xEB, off]
  | .m6800Addb (.ext w) => [0xFB, Machine.hi w, Machine.lo w]
  | .m6800Adca (.imm v) => [0x89, v]
  | .m6800Adca (.dir a) => [0x99, a]
  | .m6800Adca (.idx off) => [0xA9, off]
  | .m6800Adca (.ext w) => [0xB9, Machine.hi w, Machine.lo w]
  | .m6800Adcb (.imm v) => [0xC9, v]
  | .m6800Adcb (.dir a) => [0xD9, a]
  | .m6800Adcb (.idx off) => [0xE9, off]
  | .m6800Adcb (.ext w) => [0xF9, Machine.hi w, Machine.lo w]
  | .m6800Aba => [0x1B]
  | .m6800Suba (.imm v) => [0x80, v]
  | .m6800Suba (.dir a) => [0x90, a]
  | .m6800Suba (.idx off) => [0xA0, off]
  | .m6800Suba (.ext w) => [0xB0, Machine.hi w, Machine.lo w]
  | .m6800Subb (.imm v) => [0xC0, v]
  | .m6800Subb (.dir a) => [0xD0, a]
  | .m6800Subb (.idx off) => [0xE0, off]
  | .m6800Subb (.ext w) => [0xF0, Machine.hi w, Machine.lo w]
  | .m6800Sbca (.imm v) => [0x82, v]
  | .m6800Sbca (.dir a) => [0x92, a]
  | .m6800Sbca (.idx off) => [0xA2, off]
  | .m6800Sbca (.ext w) => [0xB2, Machine.hi w, Machine.lo w]
  | .m6800Sbcb (.imm v) => [0xC2, v]
  | .m6800Sbcb (.dir a) => [0xD2, a]
  | .m6800Sbcb (.idx off) => [0xE2, off]
  | .m6800Sbcb (.ext w) => [0xF2, Machine.hi w, Machine.lo w]
  | .m6800Sba => [0x10]
  | .m6800Cmpa (.imm v) => [0x81, v]
  | .m6800Cmpa (.dir a) => [0x91, a]
  | .m6800Cmpa (.idx off) => [0xA1, off]
  | .m6800Cmpa (.ext w) => [0xB1, Machine.hi w, Machine.lo w]
  | .m6800Cmpb (.imm v) => [0xC1, v]
  | .m6800Cmpb (.dir a) => [0xD1, a]
  | .m6800Cmpb (.idx off) => [0xE1, off]
  | .m6800Cmpb (.ext w) => [0xF1, Machine.hi w, Machine.lo w]
  | .m6800Cba => [0x11]
  | .m6800Cpx (.imm16 v) => [0x8C, Machine.hi v, Machine.lo v]
  | .m6800Cpx (.dir a) => [0x9C, a]
  | .m6800Cpx (.idx off) => [0xAC, off]
  | .m6800Cpx (.ext w) => [0xBC, Machine.hi w, Machine.lo w]
  | .m6800Anda (.imm v) => [0x84, v]
  | .m6800Anda (.dir a) => [0x94, a]
  | .m6800Anda (.idx off) => [0xA4, off]
  | .m6800Anda (.ext w) => [0xB4, Machine.hi w, Machine.lo w]
  | .m6800Andb (.imm v) => [0xC4, v]
  | .m6800Andb (.dir a) => [0xD4, a]
  | .m6800Andb (.idx off) => [0xE4, off]
  | .m6800Andb (.ext w) => [0xF4, Machine.hi w, Machine.lo w]
  | .m6800Bita (.imm v) => [0x85, v]
  | .m6800Bita (.dir a) => [0x95, a]
  | .m6800Bita (.idx off) => [0xA5, off]
  | .m6800Bita (.ext w) => [0xB5, Machine.hi w, Machine.lo w]
  | .m6800Bitb (.imm v) => [0xC5, v]
  | .m6800Bitb (.dir a) => [0xD5, a]
  | .m6800Bitb (.idx off) => [0xE5, off]
  | .m6800Bitb (.ext w) => [0xF5, Machine.hi w, Machine.lo w]
  | .m6800Eora (.imm v) => [0x88, v]
  | .m6800Eora (.dir a) => [0x98, a]
  | .m6800Eora (.idx off) => [0xA8, off]
  | .m6800Eora (.ext w) => [0xB8, Machine.hi w, Machine.lo w]
  | .m6800Eorb (.imm v) => [0xC8, v]
  | .m6800Eorb (.dir a) => [0xD8, a]
  | .m6800Eorb (.idx off) => [0xE8, off]
  | .m6800Eorb (.ext w) => [0xF8, Machine.hi w, Machine.lo w]
  | .m6800Oraa (.imm v) => [0x8A, v]
  | .m6800Oraa (.dir a) => [0x9A, a]
  | .m6800Oraa (.idx off) => [0xAA, off]
  | .m6800Oraa (.ext w) => [0xBA, Machine.hi w, Machine.lo w]
  | .m6800Orab (.imm v) => [0xCA, v]
  | .m6800Orab (.dir a) => [0xDA, a]
  | .m6800Orab (.idx off) => [0xEA, off]
  | .m6800Orab (.ext w) => [0xFA, Machine.hi w, Machine.lo w]
  | .m6800Daa => [0x19]
  | .m6800Nega => [0x40]
  | .m6800Negb => [0x50]
  | .m6800Neg (.idx off) => [0x60, off]
  | .m6800Neg (.ext w) => [0x70, Machine.hi w, Machine.lo w]
  | .m6800Coma => [0x43]
  | .m6800Comb => [0x53]
  | .m6800Com (.idx off) => [0x63, off]
  | .m6800Com (.ext w) => [0x73, Machine.hi w, Machine.lo w]
  | .m6800Clra => [0x4F]
  | .m6800Clrb => [0x5F]
  | .m6800Clr (.idx off) => [0x6F, off]
  | .m6800Clr (.ext w) => [0x7F, Machine.hi w, Machine.lo w]
  | .m6800Tsta => [0x4D]
  | .m6800Tstb => [0x5D]
  | .m6800Tst (.idx off) => [0x6D, off]
  | .m6800Tst (.ext w) => [0x7D, Machine.hi w, Machine.lo w]
  | .m6800Inca => [0x4C]
  | .m6800Incb => [0x5C]
  | .m6800Inc (.idx off) => [0x6C, off]
  | .m6800Inc (.ext w) => [0x7C, Machine.hi w, Machine.lo w]
  | .m6800Deca => [0x4A]
  | .m6800Decb => [0x5A]
  | .m6800Dec (.idx off) => [0x6A, off]
  | .m6800Dec (.ext w) => [0x7A, Machine.hi w, Machine.lo w]
  | .m6800Asla => [0x48]
  | .m6800Aslb => [0x58]
  | .m6800Asl (.idx off) => [0x68, off]
  | .m6800Asl (.ext w) => [0x78, Machine.hi w, Machine.lo w]
  | .m6800Asra => [0x47]
  | .m6800Asrb => [0x57]
  | .m6800Asr (.idx off) => [0x67, off]
  | .m6800Asr (.ext w) => [0x77, Machine.hi w, Machine.lo w]
  | .m6800Lsra => [0x44]
  | .m6800Lsrb => [0x54]
  | .m6800Lsr (.idx off) => [0x64, off]
  | .m6800Lsr (.ext w) => [0x74, Machine.hi w, Machine.lo w]
  | .m6800Rola => [0x49]
  | .m6800Rolb => [0x59]
  | .m6800Rol (.idx off) => [0x69, off]
  | .m6800Rol (.ext w) => [0x79, Machine.hi w, Machine.lo w]
  | .m6800Rora => [0x46]
  | .m6800Rorb => [0x56]
  | .m6800Ror (.idx off) => [0x66, off]
  | .m6800Ror (.ext w) => [0x76, Machine.hi w, Machine.lo w]
  | .m6800Bra off => [0x20, off]
  | .m6800Bhi off => [0x22, off]
  | .m6800Bls off => [0x23, off]
  | .m6800Bcc off => [0x24, off]
  | .m6800Bcs off => [0x25, off]
  | .m6800Bne off => [0x26, off]
  | .m6800Beq off => [0x27, off]
  | .m6800Bvc off => [0x28, off]
  | .m6800Bvs off => [0x29, off]
  | .m6800Bpl off => [0x2A, off]
  | .m6800Bmi off => [0x2B, off]
  | .m6800Bge off => [0x2C, off]
  | .m6800Blt off => [0x2D, off]
  | .m6800Bgt off => [0x2E, off]
  | .m6800Ble off => [0x2F, off]
  | .m6800Bsr off => [0x8D, off]
  | .m6800Jmp (.idx off) => [0x6E, off]
  | .m6800Jmp (.ext w) => [0x7E, Machine.hi w, Machine.lo w]
  | .m6800Jsr (.idx off) => [0xAD, off]
  | .m6800Jsr (.ext w) => [0xBD, Machine.hi w, Machine.lo w]
  | .m6800Rts => [0x39]
  | .m6800Rti => [0x3B]
  | .m6800Swi => [0x3F]
  | .m6800Wai => [0x3E]
  | .m6800Nop => [0x01]
  | .m6800Clc => [0x0C]
  | .m6800Sec => [0x0D]
  | .m6800Cli => [0x0E]
  | .m6800Sei => [0x0F]
  | .m6800Clv => [0x0A]
  | .m6800Sev => [0x0B]

/-- The opcode byte of an instruction (R86, R87). -/
def Instr.opcode (i : Instr) : Byte := (encode i).headD 0

/-- How many bytes an instruction has (R81). -/
def Instr.size (i : Instr) : Nat := (encode i).length

end Sys2Proof
end

