-- ==== Sys2Proof/Machine/State.lean ====
section
/-!
DEFINITION. The state of an engine and its bus (10_state.md, 20_memory.md), the reasons a step can stop, and the state
after reset. INVENTORY.md lists every field with the rule that names it.
-/

namespace Sys2Proof.Machine

/-- The M6502 register file (10_state.md R20, R21, R23). -/
structure Regs65 where
  /-- accumulator A (R20) -/
  a : Byte
  /-- index register X (R20) -/
  x : Byte
  /-- index register Y (R20) -/
  y : Byte
  /-- stack pointer, in page 1 (R21) -/
  sp : Byte
  /-- N, negative (R23) -/
  n : Bool
  /-- V, overflow (R23) -/
  v : Bool
  /-- B, break: written by PLP, RTI, reset and the host only (R25) -/
  b : Bool
  /-- D, decimal (R23) -/
  d : Bool
  /-- I, interrupt disable (R23) -/
  i : Bool
  /-- Z, zero (R23) -/
  z : Bool
  /-- C, carry (R23) -/
  c : Bool
  deriving DecidableEq, Repr

/-- The M6800 register file (10_state.md R30 to R34). -/
structure Regs68 where
  /-- accumulator A (R30) -/
  a : Byte
  /-- accumulator B (R30) -/
  b : Byte
  /-- index register IX (R31) -/
  ix : Word
  /-- stack pointer, anywhere in the 64 KB space (R32) -/
  sp : Word
  /-- H, half carry (R34) -/
  h : Bool
  /-- I, interrupt mask (R34) -/
  i : Bool
  /-- N, negative (R34) -/
  n : Bool
  /-- Z, zero (R34) -/
  z : Bool
  /-- V, two's-complement overflow (R34) -/
  v : Bool
  /-- C, carry or borrow (R34) -/
  c : Bool
  deriving DecidableEq, Repr

/-- The bus contents (20_memory.md R60, R61) as the bytes that differ from what an unlisted address reads as, by rising
address. `Ops.lean` reads and writes it; `memWf` there says that the form holds. -/
abbrev Memory := List Host.Cell

/-- One engine with its bus, between two ticks. An engine has one profile for its whole life (00_scope.md R10); the register
file of the other profile stands unused at its reset values (DESIGN CHOICE, log entry 2). -/
structure State where
  /-- `P_PROFILE` (00_scope.md R9, R10) -/
  profile : Profile
  /-- the other parameters of 00_scope.md R9; no step changes them (log entry 3) -/
  params : Config.Params
  /-- the M6502 register file (10_state.md section 1) -/
  m6502 : Regs65
  /-- the M6800 register file (10_state.md section 2) -/
  m6800 : Regs68
  /-- the program counter of either profile (R22, R33) -/
  pc : Word
  /-- the remaining-cycles counter: 0 is Idle, more is Executing (R40) -/
  remaining : Nat
  /-- the IRQ pin, a level set by the host (R41) -/
  irqLine : Bool
  /-- the NMI pin, set by the host (R41) -/
  nmiLine : Bool
  /-- the NMI latch (R41, 60_exceptions.md R511) -/
  nmiPending : Bool
  /-- the HALT pin, M6800 only (R41) -/
  haltLine : Bool
  /-- true after a WAI until the interrupt that ends it, M6800 only (R41) -/
  waiting : Bool
  /-- the bus contents (20_memory.md R61) -/
  mem : Memory
  /-- the model's own: how many values of `Config.freeDaaV` DAA has drawn (log entry 4) -/
  draws : Nat
  deriving DecidableEq, Repr

/-- Why a tick ends in a fault (60_exceptions.md R500). The state and the bus are as before the tick, and the fault ends the
run. -/
inductive Fault where
  /-- Raised by an Idle tick that fetches a byte absent from the profile's opcode table (R501). Safe: the spec faults here
  too. -/
  | unknownOpcode (opcode : Byte) (address : Word)
  /-- Raised by an Idle tick that fetches a defined byte listed in `P_UNIMPLEMENTED` (R502). Safe: the spec faults here
  too. -/
  | unimplementedInstruction (opcode : Byte) (address : Word)
  deriving DecidableEq, Repr

/-- Why the model gives an instruction no meaning. -/
inductive Refusal where
  /-- Raised by an arm of `exec` that has no meaning yet, with the mnemonic of the opcode table. Safe: the run stops. No arm
  answers it. -/
  | notModelled (mnemonic : String)
  /-- Raised by `exec` given an instruction of the other profile's opcode table. No step raises it: the decoder of an engine
  gives instructions of its own table only (30_encoding.md R90, 60_exceptions.md R503). Safe: the run stops. -/
  | profileMismatch
  deriving DecidableEq, Repr

/-- What a tick or an instruction answers (40_execution_cycle.md R100). -/
abbrev Result := Host.Outcome State Fault Refusal

/-- The M6502 register file after reset (10_state.md R45). -/
def Regs65.reset : Regs65 where
  a := 0x00
  x := 0x00
  y := 0x00
  sp := 0xFD
  n := false
  v := false
  b := false
  d := false
  i := true
  z := false
  c := false

/-- The M6800 register file after reset (10_state.md R45). -/
def Regs68.reset : Regs68 where
  a := 0x00
  b := 0x00
  ix := 0x0000
  sp := 0x0000
  h := false
  i := false
  n := false
  z := false
  v := false
  c := false

/-- An engine of profile `p` with the default parameters, right after construction and reset (10_state.md R45,
70_reset_and_hazards.md R600), on a bus of which nothing is listed. -/
def State.resetOf (p : Profile) : State where
  profile := p
  params := Config.defaults
  m6502 := Regs65.reset
  m6800 := Regs68.reset
  pc := 0x0000
  remaining := 0
  irqLine := false
  nmiLine := false
  nmiPending := false
  haltLine := false
  waiting := false
  mem := []
  draws := 0

/-- The machine right after reset: the M6502 engine (DESIGN CHOICE, log entry 1: `P_PROFILE` has no default). The M6800
engine's is `State.resetOf .m6800`. -/
def State.reset : State := State.resetOf .m6502

end Sys2Proof.Machine
end

