-- ==== Sys2Proof/Machine/Ops.lean ====
section
/-!
DEFINITION. The named operations over memory and registers: the bus (20_memory.md), the packed status bytes (10_state.md
R24, R35), the stack primitives and frames (40_execution_cycle.md R110 to R116), entering a trap or an interrupt and
returning from one (60_exceptions.md R512, R513, R521 to R523), and the frame every instruction's meaning runs in (R101).
-/

namespace Sys2Proof.Machine

/-! ### Memory -/

/-- What an unlisted address reads as: 0x00 (DESIGN CHOICE, log entry 5: the contents of memory are the host's, R610). -/
def unlistedByte : Byte := 0x00

/-- The byte at an address (20_memory.md R61). -/
def memRead : Memory → Nat → Byte
  | [], _ => unlistedByte
  | (k, v) :: rest, a => if k = a then v else memRead rest a

/-- List a byte at an address, in its place among the rising addresses. -/
def memInsert : Memory → Nat → Byte → Memory
  | [], a, v => [(a, v)]
  | (k, w) :: rest, a, v =>
    if a < k then (a, v) :: (k, w) :: rest
    else if a = k then (a, v) :: rest
    else (k, w) :: memInsert rest a v

/-- List nothing at an address. -/
def memErase : Memory → Nat → Memory
  | [], _ => []
  | (k, w) :: rest, a => if k = a then memErase rest a else (k, w) :: memErase rest a

/-- Write a byte at an address (20_memory.md R61), keeping the canonical form. -/
def memWrite (m : Memory) (a : Nat) (v : Byte) : Memory :=
  if v = unlistedByte then memErase m a else memInsert m a v

/-- The cells stand by strictly rising address from `lowest` on, inside the 64 KB space, and none holds the byte an unlisted
address reads as. -/
def memWfFrom (lowest : Nat) : Memory → Bool
  | [] => true
  | (k, v) :: rest =>
    decide (lowest ≤ k) && decide (k < 65536) && decide (v ≠ unlistedByte) && memWfFrom (k + 1) rest

/-- The canonical form of memory. -/
def memWf (m : Memory) : Bool := memWfFrom 0 m

/-- `MemRead(a, 1)` (00_scope.md R12). -/
def State.readByte (s : State) (a : Word) : Byte := memRead s.mem a.toNat

/-- `MemWrite(a, 1, v)` (00_scope.md R12). -/
def State.writeByte (s : State) (a : Word) (v : Byte) : State := { s with mem := memWrite s.mem a.toNat v }

/-- A 16-bit quantity of the M6502: low byte at the lower address (20_memory.md R62). -/
def State.readLowFirst (s : State) (a : Word) : Word := w16 (s.readByte (a + 1)) (s.readByte a)

/-- A 16-bit quantity of the M6800: high byte at the lower address (20_memory.md R62). -/
def State.readHighFirst (s : State) (a : Word) : Word := w16 (s.readByte a) (s.readByte (a + 1))

/-- Store a 16-bit quantity of the M6800 (`store16` of 41_addressing_modes.md R143). -/
def State.writeHighFirst (s : State) (a : Word) (w : Word) : State :=
  (s.writeByte a (hi w)).writeByte (a + 1) (lo w)

/-! ### The packed status bytes -/

/-- `getP()` (10_state.md R24): the unused bit 5 reads as 1. -/
def getP (r : Regs65) : Byte :=
  BitVec.ofNat 8 (bit r.n * 128 + bit r.v * 64 + 32 + bit r.b * 16 + bit r.d * 8 + bit r.i * 4 + bit r.z * 2 + bit r.c)

/-- `setP(b)` (10_state.md R24): bit 5 is ignored. -/
def setP (r : Regs65) (p : Byte) : Regs65 :=
  { r with n := p.getLsbD 7, v := p.getLsbD 6, b := p.getLsbD 4, d := p.getLsbD 3, i := p.getLsbD 2,
           z := p.getLsbD 1, c := p.getLsbD 0 }

/-- `getCC()` (10_state.md R35): bits 7 and 6 read as 1. -/
def getCC (r : Regs68) : Byte :=
  BitVec.ofNat 8 (192 + bit r.h * 32 + bit r.i * 16 + bit r.n * 8 + bit r.z * 4 + bit r.v * 2 + bit r.c)

/-- `setCC(b)` (10_state.md R35): bits 7 and 6 are ignored. -/
def setCC (r : Regs68) (p : Byte) : Regs68 :=
  { r with h := p.getLsbD 5, i := p.getLsbD 4, n := p.getLsbD 3, z := p.getLsbD 2, v := p.getLsbD 1, c := p.getLsbD 0 }

/-! ### The M6502 stack -/

/-- The byte SP addresses on the M6502: `0x0100 + SP` (10_state.md R21). -/
def stackAddr65 (sp : Byte) : Word := 0x0100#16 + zext16 sp

/-- `push8(v)` on the M6502 (40_execution_cycle.md R110). -/
def push65 (v : Byte) (s : State) : State :=
  let t := s.writeByte (stackAddr65 s.m6502.sp) v
  { t with m6502 := { t.m6502 with sp := s.m6502.sp - 1 } }

/-- The byte `pull8()` returns on the M6502 (40_execution_cycle.md R111). -/
def pulled65 (s : State) : Byte := s.readByte (stackAddr65 (s.m6502.sp + 1))

/-- What `pull8()` leaves on the M6502 (40_execution_cycle.md R111). -/
def pull65 (s : State) : State := { s with m6502 := { s.m6502 with sp := s.m6502.sp + 1 } }

/-- `push16(w)` on the M6502, by `P_STACK_ORDER_6502` (40_execution_cycle.md R112). -/
def push16At65 (w : Word) (s : State) : State :=
  match s.params.stackOrder with
  | .hiFirst => push65 (lo w) (push65 (hi w) s)
  | .loFirst => push65 (hi w) (push65 (lo w) s)

/-- The word `pull16()` returns on the M6502, by `P_STACK_ORDER_6502` (40_execution_cycle.md R112). -/
def pulled16At65 (s : State) : Word :=
  match s.params.stackOrder with
  | .hiFirst => w16 (pulled65 (pull65 s)) (pulled65 s)
  | .loFirst => w16 (pulled65 s) (pulled65 (pull65 s))

/-- What `pull16()` leaves on the M6502 (40_execution_cycle.md R112). -/
def pull16At65 (s : State) : State := pull65 (pull65 s)

/-! ### The M6800 stack -/

/-- `push8(v)` on the M6800 (40_execution_cycle.md R110). -/
def push68 (v : Byte) (s : State) : State :=
  let t := s.writeByte s.m6800.sp v
  { t with m6800 := { t.m6800 with sp := s.m6800.sp - 1 } }

/-- The byte `pull8()` returns on the M6800 (40_execution_cycle.md R111). -/
def pulled68 (s : State) : Byte := s.readByte (s.m6800.sp + 1)

/-- What `pull8()` leaves on the M6800 (40_execution_cycle.md R111). -/
def pull68 (s : State) : State := { s with m6800 := { s.m6800 with sp := s.m6800.sp + 1 } }

/-- `push16(w)` on the M6800: low byte first, so that the word stands high byte at the lower address
(40_execution_cycle.md R113). -/
def push16At68 (w : Word) (s : State) : State := push68 (hi w) (push68 (lo w) s)

/-- The word `pull16()` returns on the M6800 (40_execution_cycle.md R113). -/
def pulled16At68 (s : State) : Word := w16 (pulled68 s) (pulled68 (pull68 s))

/-- What `pull16()` leaves on the M6800 (40_execution_cycle.md R113). -/
def pull16At68 (s : State) : State := pull68 (pull68 s)

/-! ### Taking a trap or an interrupt, and returning from one -/

/-- The status byte of an M6502 frame (40_execution_cycle.md R116): `(getP() & ~0x10) | (bFlag << 4) | 0x20`. -/
def frameStatus65 (r : Regs65) (bFlag : Bool) : Byte :=
  (getP r &&& ~~~(0x10#8)) ||| (if bFlag then 0x10#8 else 0#8) ||| 0x20#8

/-- `pushFrame6502(pcValue, bFlag)` (40_execution_cycle.md R116). -/
def pushFrame65 (pcValue : Word) (bFlag : Bool) (s : State) : State :=
  push65 (frameStatus65 s.m6502 bFlag) (push16At65 pcValue s)

/-- `pullFrame6502()` (40_execution_cycle.md R116): status, then PC. -/
def pullFrame65 (s : State) : State :=
  let t := { pull65 s with m6502 := setP (pull65 s).m6502 (pulled65 s) }
  { pull16At65 t with pc := pulled16At65 t }

/-- Taking a trap or an interrupt on the M6502 (60_exceptions.md R512, R513): the frame is pushed, I is set, and PC is the
word at the vector, low byte first. D and the register-file B are not changed. -/
def enter65 (pcValue : Word) (bFlag : Bool) (vector : Word) (s : State) : State :=
  let t := pushFrame65 pcValue bFlag s
  { t with m6502 := { t.m6502 with i := true }, pc := t.readLowFirst vector }

/-- `pushFrame6800()` (40_execution_cycle.md R115): PC, IX, A, B, CC, downward. -/
def pushFrame68 (s : State) : State :=
  push68 (getCC s.m6800) (push68 s.m6800.b (push68 s.m6800.a (push16At68 s.m6800.ix (push16At68 s.pc s))))

/-- `pullFrame6800()` (40_execution_cycle.md R115): CC, B, A, IX, PC. -/
def pullFrame68 (s : State) : State :=
  let t1 := { pull68 s with m6800 := setCC (pull68 s).m6800 (pulled68 s) }
  let t2 := { pull68 t1 with m6800 := { (pull68 t1).m6800 with b := pulled68 t1 } }
  let t3 := { pull68 t2 with m6800 := { (pull68 t2).m6800 with a := pulled68 t2 } }
  let t4 := { pull16At68 t3 with m6800 := { (pull16At68 t3).m6800 with ix := pulled16At68 t3 } }
  { pull16At68 t4 with pc := pulled16At68 t4 }

/-- Going through a vector on the M6800 (60_exceptions.md R522, R523): I is set and PC is the word at the vector, high byte
first. -/
def vector68 (vector : Word) (s : State) : State :=
  { s with m6800 := { s.m6800 with i := true }, pc := s.readHighFirst vector }

/-- Taking a trap or an interrupt on the M6800 (60_exceptions.md R521, R522): the seven-byte frame is pushed with the old I,
then the vector is taken. -/
def enter68 (vector : Word) (s : State) : State := vector68 vector (pushFrame68 s)

/-! ### The frame of an instruction -/

/-- PC after `n` more bytes of the instruction stream (10_state.md R22). -/
def State.advance (s : State) (n : Nat) : State := { s with pc := s.pc + BitVec.ofNat 16 n }

/-- The countdown after the first of `total` ticks: the current tick is itself consumed (40_execution_cycle.md R101). -/
def State.charge (s : State) (total : Nat) : State := { s with remaining := total - 1 }

/-- `P_CYCLES[op]` for the instruction (40_execution_cycle.md R104). -/
def State.cyclesOf (s : State) (i : Instr) : Nat := Config.baseCycles s.params s.profile i.opcode

/-- The first tick of an instruction (40_execution_cycle.md R101, R103): PC moves past the instruction's bytes, the
operation `body` takes all its effects, and the countdown is set from the base cycles and the extra ones. An instruction
of the other profile's table is refused by name (log entry 2). -/
def run (i : Instr) (extra : Nat) (body : State → State) (s : State) : Result :=
  if s.profile = i.profile then .next ((body (s.advance i.size)).charge (s.cyclesOf i + extra))
  else .refused .profileMismatch

end Sys2Proof.Machine
end

