-- ==== Sys2Proof/Machine/HostPort.lean ====
section
/-!
DEFINITION. What the host can do between two ticks (10_state.md R41, R46; 20_memory.md R73; 60_exceptions.md R511), and
what it can observe. No tick calls these operations (log entry 11).
-/

namespace Sys2Proof.Machine

/-! ### Pins -/

/-- Set the IRQ pin (R41): a level. -/
def State.setIrqLine (s : State) (level : Bool) : State := { s with irqLine := level }

/-- Set the NMI pin (R511): a change from false to true sets the latch. -/
def State.setNmiLine (s : State) (level : Bool) : State :=
  { s with nmiLine := level, nmiPending := s.nmiPending || (!s.nmiLine && level) }

/-- Set the HALT pin (R41): an M6502 engine has none (log entry 12). -/
def State.setHaltLine (s : State) (level : Bool) : State :=
  match s.profile with
  | .m6502 => s
  | .m6800 => { s with haltLine := level }

/-- `isExecuting()` (R40). -/
def State.isExecuting (s : State) : Bool := decide (0 < s.remaining)

/-- The BA output of the M6800 (R41): `(haltLine and remaining = 0) or waiting`. An M6502 engine has none: false (log
entry 14). R41 evaluates it after each tick; here it is a view of the current state, so that a move of the host (the HALT
pin, `reset()`) shows in it at once and not only after the next tick (DESIGN CHOICE, unsafe, log entry 29). -/
def State.ba (s : State) : Bool :=
  match s.profile with
  | .m6502 => false
  | .m6800 => (s.haltLine && decide (s.remaining = 0)) || s.waiting

/-! ### Register and flag accessors (R46) -/

/-- Every named register of both profiles, and the two packed status views. -/
inductive RegisterName where
  | a65
  | x65
  | y65
  | sp65
  | p65
  | a68
  | b68
  | ix68
  | sp68
  | cc68
  | pc
  deriving DecidableEq, Repr

/-- Every named flag of both profiles. -/
inductive FlagName where
  | n65
  | v65
  | b65
  | d65
  | i65
  | z65
  | c65
  | h68
  | i68
  | n68
  | z68
  | v68
  | c68
  deriving DecidableEq, Repr

/-- The register is one of an engine of profile `p` (R20 to R24, R30 to R35). -/
def RegisterName.isOf (name : RegisterName) (p : Profile) : Bool :=
  match name, p with
  | .a65, .m6502 | .x65, .m6502 | .y65, .m6502 | .sp65, .m6502 | .p65, .m6502 => true
  | .a68, .m6800 | .b68, .m6800 | .ix68, .m6800 | .sp68, .m6800 | .cc68, .m6800 => true
  | .pc, _ => true
  | _, _ => false

/-- The flag is one of an engine of profile `p` (R23, R34). -/
def FlagName.isOf (name : FlagName) (p : Profile) : Bool :=
  match name, p with
  | .n65, .m6502 | .v65, .m6502 | .b65, .m6502 | .d65, .m6502 | .i65, .m6502 | .z65, .m6502 | .c65, .m6502 => true
  | .h68, .m6800 | .i68, .m6800 | .n68, .m6800 | .z68, .m6800 | .v68, .m6800 | .c68, .m6800 => true
  | _, _ => false

/-- Read a register. -/
def State.getRegister (s : State) : RegisterName → Nat
  | .a65 => s.m6502.a.toNat
  | .x65 => s.m6502.x.toNat
  | .y65 => s.m6502.y.toNat
  | .sp65 => s.m6502.sp.toNat
  | .p65 => (getP s.m6502).toNat
  | .a68 => s.m6800.a.toNat
  | .b68 => s.m6800.b.toNat
  | .ix68 => s.m6800.ix.toNat
  | .sp68 => s.m6800.sp.toNat
  | .cc68 => (getCC s.m6800).toNat
  | .pc => s.pc.toNat

/-- The state after a register is given a value: the value is truncated to the register's width, and the status views are written through `setP`
(R24) and `setCC` (R35). -/
def State.withRegister (s : State) (name : RegisterName) (v : Nat) : State :=
  match name with
  | .a65 => { s with m6502 := { s.m6502 with a := BitVec.ofNat 8 v } }
  | .x65 => { s with m6502 := { s.m6502 with x := BitVec.ofNat 8 v } }
  | .y65 => { s with m6502 := { s.m6502 with y := BitVec.ofNat 8 v } }
  | .sp65 => { s with m6502 := { s.m6502 with sp := BitVec.ofNat 8 v } }
  | .p65 => { s with m6502 := setP s.m6502 (BitVec.ofNat 8 v) }
  | .a68 => { s with m6800 := { s.m6800 with a := BitVec.ofNat 8 v } }
  | .b68 => { s with m6800 := { s.m6800 with b := BitVec.ofNat 8 v } }
  | .ix68 => { s with m6800 := { s.m6800 with ix := BitVec.ofNat 16 v } }
  | .sp68 => { s with m6800 := { s.m6800 with sp := BitVec.ofNat 16 v } }
  | .cc68 => { s with m6800 := setCC s.m6800 (BitVec.ofNat 8 v) }
  | .pc => { s with pc := BitVec.ofNat 16 v }

/-- Write a register. An engine has no register of the other profile, so a write to one changes nothing (log entry 2). -/
def State.setRegister (s : State) (name : RegisterName) (v : Nat) : State :=
  if name.isOf s.profile then s.withRegister name v else s

/-- Read a flag. -/
def State.getFlag (s : State) : FlagName → Bool
  | .n65 => s.m6502.n
  | .v65 => s.m6502.v
  | .b65 => s.m6502.b
  | .d65 => s.m6502.d
  | .i65 => s.m6502.i
  | .z65 => s.m6502.z
  | .c65 => s.m6502.c
  | .h68 => s.m6800.h
  | .i68 => s.m6800.i
  | .n68 => s.m6800.n
  | .z68 => s.m6800.z
  | .v68 => s.m6800.v
  | .c68 => s.m6800.c

/-- The state after a flag is given a value. -/
def State.withFlag (s : State) (name : FlagName) (v : Bool) : State :=
  match name with
  | .n65 => { s with m6502 := { s.m6502 with n := v } }
  | .v65 => { s with m6502 := { s.m6502 with v := v } }
  | .b65 => { s with m6502 := { s.m6502 with b := v } }
  | .d65 => { s with m6502 := { s.m6502 with d := v } }
  | .i65 => { s with m6502 := { s.m6502 with i := v } }
  | .z65 => { s with m6502 := { s.m6502 with z := v } }
  | .c65 => { s with m6502 := { s.m6502 with c := v } }
  | .h68 => { s with m6800 := { s.m6800 with h := v } }
  | .i68 => { s with m6800 := { s.m6800 with i := v } }
  | .n68 => { s with m6800 := { s.m6800 with n := v } }
  | .z68 => { s with m6800 := { s.m6800 with z := v } }
  | .v68 => { s with m6800 := { s.m6800 with v := v } }
  | .c68 => { s with m6800 := { s.m6800 with c := v } }

/-- Write a flag. An engine has no flag of the other profile, so a write to one changes nothing (log entry 2). -/
def State.setFlag (s : State) (name : FlagName) (v : Bool) : State :=
  if name.isOf s.profile then s.withFlag name v else s

/-! ### Memory -/

/-- The host writes one byte between ticks (20_memory.md R73). -/
def State.hostWrite (s : State) (a : Word) (v : Byte) : State := s.writeByte a v

end Sys2Proof.Machine
end

