-- ==== Sys2Proof/Machine/Reset.lean ====
section
/-!
DEFINITION. Construction and `reset()` (70_reset_and_hazards.md section 1). Neither is a tick (R602).
-/

namespace Sys2Proof.Machine

/-- Where PC starts (R600), by `P_RESET_PC`: 0x0000, or the word at the profile's reset vector in its own byte order. -/
def resetPc (s : State) : Word :=
  match s.params.resetPc, s.profile with
  | .zero, _ => 0x0000
  | .vector, .m6502 => s.readLowFirst 0xFFFC
  | .vector, .m6800 => s.readHighFirst 0xFFFE

/-- `reset()` (R600): the register file at the values of 10_state.md R45, the engine Idle, no NMI latched and no wait; the
pins, the parameters and memory unchanged. -/
def State.restart (s : State) : State :=
  { s with
    m6502 := Regs65.reset
    m6800 := Regs68.reset
    pc := resetPc s
    remaining := 0
    nmiPending := false
    waiting := false }

/-- Construction (R600): an engine of profile `p` with parameters `c` on a bus with contents `m`, every pin false, in the
state `reset()` gives. -/
def State.construct (p : Profile) (c : Config.Params) (m : Memory) : State :=
  State.restart { State.resetOf p with params := c, mem := m }

end Sys2Proof.Machine
end

