-- ==== Sys2Proof/Machine/Flags.lean ====
section
/-!
DEFINITION. The ALU (42_alu.md): every result and every flag computation. A primitive that writes flags takes the register
file and gives it back with those flags written; a flag it does not name is unchanged.
-/

namespace Sys2Proof.Machine

/-! ### Shared by both profiles -/

/-- What `add8` answers (R165). -/
structure AddOut where
  r : Byte
  c : Bool
  v : Bool
  h : Bool
  n : Bool
  z : Bool
  deriving DecidableEq, Repr

/-- `add8(a, m, cin)` (R165): the zero test is on the truncated result (R160). -/
def add8 (a m : Byte) (cin : Bool) : AddOut :=
  let s := a.toNat + m.toNat + bit cin
  let r := BitVec.ofNat 8 s
  { r := r
    c := decide (256 ≤ s)
    v := (a.msb == m.msb) && (a.msb != r.msb)
    h := decide (0x0F < a.toNat % 16 + m.toNat % 16 + bit cin)
    n := r.msb
    z := decide (r = 0) }

/-- `asl(x)` (R168): result and carry. -/
def aslOut (x : Byte) : Byte × Bool := (x <<< 1, x.msb)

/-- `lsr(x)` (R168). -/
def lsrOut (x : Byte) : Byte × Bool := (x >>> 1, x.getLsbD 0)

/-- `rol(x)` with carry in (R168). -/
def rolOut (cin : Bool) (x : Byte) : Byte × Bool := (x <<< 1 ||| (if cin then 0x01#8 else 0#8), x.msb)

/-- `ror(x)` with carry in (R168). -/
def rorOut (cin : Bool) (x : Byte) : Byte × Bool := (x >>> 1 ||| (if cin then 0x80#8 else 0#8), x.getLsbD 0)

/-- `asr(x)`, M6800 only (R169). -/
def asrOut (x : Byte) : Byte × Bool := (x >>> 1 ||| (x &&& 0x80#8), x.getLsbD 0)

/-! ### M6502 -/

/-- `zn8(v)` written to Z and N (R160). -/
def zn65 (v : Byte) (r : Regs65) : Regs65 := { r with z := decide (v = 0), n := v.msb }

/-- `adc6502` when binary (R161). -/
def adcBinary (m : Byte) (r : Regs65) : Regs65 :=
  let o := add8 r.a m r.c
  { r with a := o.r, c := o.c, v := o.v, n := o.n, z := o.z }

/-- `sgn8(x)` (R161). -/
def sgn8 (x : Nat) : Int := if 0x80 ≤ x then (x : Int) - 256 else x

/-- The high nibble of a byte, in place: `a & 0xF0` (R161, R163). -/
def highNibble (a : Byte) : Nat := a.toNat / 16 * 16

/-- `adc6502` when decimal (R161): N and V from the signed intermediate sum, Z from the binary sum. -/
def adcDecimal (m : Byte) (r : Regs65) : Regs65 :=
  let low := r.a.toNat % 16 + m.toNat % 16 + bit r.c
  let al := if 0x0A ≤ low then (low + 0x06) % 16 + 0x10 else low
  let high := highNibble r.a + highNibble m + al
  let s := if 0xA0 ≤ high then high + 0x60 else high
  let t : Int := sgn8 (highNibble r.a) + sgn8 (highNibble m) + al
  { r with
    a := BitVec.ofNat 8 s
    c := decide (0x100 ≤ s)
    n := (BitVec.ofInt 8 t).msb
    v := decide (t < -128) || decide (127 < t)
    z := decide ((r.a.toNat + m.toNat + bit r.c) % 256 = 0) }

/-- `adc6502(A, m)` (R161, R220): decimal where D = 1 and `P_DECIMAL_6502` is nmos. -/
def adc65 (mode : Config.Decimal) (m : Byte) (r : Regs65) : Regs65 :=
  match mode, r.d with
  | .nmos, true => adcDecimal m r
  | .nmos, false => adcBinary m r
  | .binary, _ => adcBinary m r

/-- `sbc6502`, the binary part (R162): add the complement. -/
def sbcBinary (m : Byte) (r : Regs65) : Regs65 := adcBinary (m ^^^ 0xFF#8) r

/-- The result byte of `sbc6502` when decimal (R163). -/
def sbcDecimalResult (a m : Byte) (c : Bool) : Byte :=
  let low : Int := (a.toNat % 16 : Nat) - (m.toNat % 16 : Nat) + (bit c : Nat) - 1
  let al : Int := if low < 0 then (low - 0x06) % 16 - 0x10 else low
  let high : Int := (highNibble a : Nat) - (highNibble m : Nat) + al
  let s : Int := if high < 0 then high - 0x60 else high
  BitVec.ofInt 8 s

/-- `sbc6502(A, m)` (R162, R163, R221): the flags are always those of the binary subtraction. -/
def sbc65 (mode : Config.Decimal) (m : Byte) (r : Regs65) : Regs65 :=
  match mode, r.d with
  | .nmos, true => { sbcBinary m r with a := sbcDecimalResult r.a m r.c }
  | .nmos, false => sbcBinary m r
  | .binary, _ => sbcBinary m r

/-- `cmp6502(reg, m)` (R164). -/
def cmp65 (reg m : Byte) (r : Regs65) : Regs65 :=
  { r with c := decide (m.toNat ≤ reg.toNat), z := decide (reg = m), n := (reg - m).msb }

/-- `bit6502(A, m)` (R167). -/
def bit65 (m : Byte) (r : Regs65) : Regs65 :=
  { r with z := decide (r.a &&& m = 0), n := m.getLsbD 7, v := m.getLsbD 6 }

/-- A shift or rotate on the M6502: the result, and C, Z and N written (R168). -/
def shift65 (o : Byte × Bool) (r : Regs65) : Byte × Regs65 := (o.1, { zn65 o.1 r with c := o.2 })

/-- `asl` as a read-modify-write primitive of the M6502 (R168). -/
def asl65 (x : Byte) (r : Regs65) : Byte × Regs65 := shift65 (aslOut x) r

/-- `lsr` as a read-modify-write primitive of the M6502 (R168). -/
def lsr65 (x : Byte) (r : Regs65) : Byte × Regs65 := shift65 (lsrOut x) r

/-- `rol` as a read-modify-write primitive of the M6502 (R168). -/
def rol65 (x : Byte) (r : Regs65) : Byte × Regs65 := shift65 (rolOut r.c x) r

/-- `ror` as a read-modify-write primitive of the M6502 (R168). -/
def ror65 (x : Byte) (r : Regs65) : Byte × Regs65 := shift65 (rorOut r.c x) r

/-- `inc8` (R170): Z and N only. -/
def inc65 (x : Byte) (r : Regs65) : Byte × Regs65 := (x + 1, zn65 (x + 1) r)

/-- `dec8` (R170): Z and N only. -/
def dec65 (x : Byte) (r : Regs65) : Byte × Regs65 := (x - 1, zn65 (x - 1) r)

/-! ### M6800 -/

/-- N and Z from a byte moved or computed, and V cleared (R166, R176, R177). -/
def nzv0 (v : Byte) (r : Regs68) : Regs68 := { r with n := v.msb, z := decide (v = 0), v := false }

/-- N and Z from a word moved, and V cleared (R176). -/
def nzv0Word (w : Word) (r : Regs68) : Regs68 := { r with n := w.msb, z := decide (w = 0), v := false }

/-- The flags of `add8` on the M6800: H, N, Z, V and C (R165). -/
def addFlags68 (o : AddOut) (r : Regs68) : Regs68 := { r with h := o.h, n := o.n, z := o.z, v := o.v, c := o.c }

/-- What `sub8_6800` answers (R171). -/
structure SubOut where
  r : Byte
  c : Bool
  v : Bool
  n : Bool
  z : Bool
  deriving DecidableEq, Repr

/-- `sub8_6800(a, m, bin)` (R171): C is a borrow. -/
def sub8 (a m : Byte) (bin : Bool) : SubOut :=
  let d : Int := (a.toNat : Int) - m.toNat - bit bin
  let r := BitVec.ofInt 8 d
  { r := r
    c := decide (d < 0)
    v := (a.msb && !m.msb && !r.msb) || (!a.msb && m.msb && r.msb)
    n := r.msb
    z := decide (r = 0) }

/-- The flags of `sub8_6800`: N, Z, V and C; H is unchanged (R171). -/
def subFlags68 (o : SubOut) (r : Regs68) : Regs68 := { r with n := o.n, z := o.z, v := o.v, c := o.c }

/-- A shift or rotate on the M6800: V = N xor C, computed after the shift (R169). -/
def shift68 (o : Byte × Bool) (r : Regs68) : Byte × Regs68 :=
  (o.1, { r with n := o.1.msb, z := decide (o.1 = 0), v := o.1.msb ^^ o.2, c := o.2 })

/-- `asl` on the M6800 (R169). -/
def asl68 (x : Byte) (r : Regs68) : Byte × Regs68 := shift68 (aslOut x) r

/-- `asr` on the M6800 (R169). -/
def asr68 (x : Byte) (r : Regs68) : Byte × Regs68 := shift68 (asrOut x) r

/-- `lsr` on the M6800 (R169). -/
def lsr68 (x : Byte) (r : Regs68) : Byte × Regs68 := shift68 (lsrOut x) r

/-- `rol` on the M6800 (R169). -/
def rol68 (x : Byte) (r : Regs68) : Byte × Regs68 := shift68 (rolOut r.c x) r

/-- `ror` on the M6800 (R169). -/
def ror68 (x : Byte) (r : Regs68) : Byte × Regs68 := shift68 (rorOut r.c x) r

/-- `inc8_6800(x)` (R172): V where the old value is 0x7F; C is unchanged. -/
def inc68 (x : Byte) (r : Regs68) : Byte × Regs68 :=
  (x + 1, { r with n := (x + 1).msb, z := decide (x + 1 = 0), v := decide (x = 0x7F) })

/-- `dec8_6800(x)` (R172): V where the old value is 0x80; C is unchanged. -/
def dec68 (x : Byte) (r : Regs68) : Byte × Regs68 :=
  (x - 1, { r with n := (x - 1).msb, z := decide (x - 1 = 0), v := decide (x = 0x80) })

/-- `neg(x)` (R173). -/
def neg68 (x : Byte) (r : Regs68) : Byte × Regs68 :=
  (0 - x, { r with n := (0 - x).msb, z := decide (0 - x = 0), v := decide (0 - x = 0x80), c := decide (0 - x ≠ 0) })

/-- `com(x)` (R173). -/
def com68 (x : Byte) (r : Regs68) : Byte × Regs68 :=
  (x ^^^ 0xFF#8, { r with n := (x ^^^ 0xFF#8).msb, z := decide (x ^^^ 0xFF#8 = 0), v := false, c := true })

/-- The flags of `clr` (R173). -/
def clrFlags68 (r : Regs68) : Regs68 := { r with n := false, z := true, v := false, c := false }

/-- `tst(x)` (R173). -/
def tst68 (x : Byte) (r : Regs68) : Regs68 := { r with n := x.msb, z := decide (x = 0), v := false, c := false }

/-- The correction `corr` of `daa` (R174). -/
def daaCorrection (a : Byte) (h c : Bool) : Nat :=
  let lsn := a.toNat % 16
  let msn := a.toNat / 16
  (if h || decide (9 < lsn) then 0x06 else 0)
    + (if c || decide (9 < msn) || (decide (8 < msn) && decide (9 < lsn)) then 0x60 else 0)

/-- `daa(A)` (R174): V takes the value drawn; H is unchanged. -/
def daa68 (draw : Bool) (r : Regs68) : Regs68 :=
  let s := r.a.toNat + daaCorrection r.a r.h r.c
  let res := BitVec.ofNat 8 s
  { r with a := res, c := r.c || decide (256 ≤ s), n := res.msb, z := decide (res = 0), v := draw }

/-- `cpx6800(IX, m16)` (R175): Z from all 16 bits, N and V from the high bytes; C and H are unchanged. -/
def cpx68 (m : Word) (r : Regs68) : Regs68 :=
  let rh := hi r.ix - hi m
  { r with
    z := decide (r.ix - m = 0)
    n := rh.msb
    v := ((hi r.ix).msb && !(hi m).msb && !rh.msb) || (!(hi r.ix).msb && (hi m).msb && rh.msb) }

end Sys2Proof.Machine
end

