-- ==== Sys2Proof/Machine/Operands.lean ====
section
/-!
DEFINITION. The addressing-mode resolver (41_addressing_modes.md): what address each mode gives, which operand it is and
what the page-cross penalty costs. `NoAddress`, `Imm` and `Address` of R13 are the constructors of the operand types, one
type for each use an instruction makes of its operand, so that no helper of R143 meets a form it has no arm for.
-/

namespace Sys2Proof.Machine

/-! ### M6502 -/

/-- The address-producing modes of the M6502 (R134 to R141). -/
inductive Ea65 where
  | zpg (a : Byte)
  | zpx (b : Byte)
  | zpy (b : Byte)
  | abs (w : Word)
  | abx (w : Word)
  | aby (w : Word)
  | inx (b : Byte)
  | iny (p : Byte)
  deriving DecidableEq, Repr

/-- A read operand of the M6502: `Imm(v)` or `Address(ea)`. -/
inductive Src65 where
  | imm (v : Byte)
  | mem (ea : Ea65)
  deriving DecidableEq, Repr

/-- A read-modify-write operand of the M6502: `NoAddress` (the accumulator) or `Address(ea)` (R240). -/
inductive Dst65 where
  | acc
  | mem (ea : Ea65)
  deriving DecidableEq, Repr

/-- `zpPointer16(p)` (R137): both bytes of the pointer are in page 0. -/
def zpPointer (s : State) (p : Byte) : Word := w16 (s.readByte (zext16 (p + 1))) (s.readByte (zext16 p))

/-- The effective address of a mode (R134, R135, R136, R138, R139, R141). -/
def Ea65.addr (s : State) : Ea65 → Word
  | .zpg a => zext16 a
  | .zpx b => zext16 (b + s.m6502.x)
  | .zpy b => zext16 (b + s.m6502.y)
  | .abs w => w
  | .abx w => w + zext16 s.m6502.x
  | .aby w => w + zext16 s.m6502.y
  | .inx b => zpPointer s (b + s.m6502.x)
  | .iny p => zpPointer s p + zext16 s.m6502.y

/-- `crossed` of R136 and R141: the low byte of the base plus the index exceeds 0xFF. -/
def crosses (base : Word) (idx : Byte) : Bool := decide ((lo base).toNat + idx.toNat > 0xFF)

/-- `extraA` of a read-class instruction in a mode: 1 for an indexed access that crosses a page (R136, R141). -/
def Ea65.penalty (s : State) : Ea65 → Nat
  | .abx w => bit (crosses w s.m6502.x)
  | .aby w => bit (crosses w s.m6502.y)
  | .iny p => bit (crosses (zpPointer s p) s.m6502.y)
  | .zpg _ => 0
  | .zpx _ => 0
  | .zpy _ => 0
  | .abs _ => 0
  | .inx _ => 0

/-- `M8(operand)` (R143). -/
def Src65.value (s : State) : Src65 → Byte
  | .imm v => v
  | .mem ea => s.readByte (ea.addr s)

/-- `extraA` of a read operand (R133, R136, R141). -/
def Src65.penalty (s : State) : Src65 → Nat
  | .imm _ => 0
  | .mem ea => ea.penalty s

/-- `IND` (R140): the high byte of the target comes from the pointer's own page. -/
def indirectTarget (s : State) (ptr : Word) : Word :=
  w16 (s.readByte (w16 (hi ptr) (lo ptr + 1))) (s.readByte ptr)

/-- `REL` (R142, R151): the target, from the PC after the offset byte. -/
def relTarget (pc : Word) (off : Byte) : Word := pc + sext16 off

/-- The operand of LDA, ADC, SBC, AND, ORA, EOR and CMP. -/
def srcOfRead : Mode65.Read → Src65
  | .imm v => .imm v
  | .zpg a => .mem (.zpg a)
  | .zpx b => .mem (.zpx b)
  | .abs w => .mem (.abs w)
  | .abx w => .mem (.abx w)
  | .aby w => .mem (.aby w)
  | .inx b => .mem (.inx b)
  | .iny p => .mem (.iny p)

/-- The address mode of STA. -/
def eaOfStore : Mode65.Store → Ea65
  | .zpg a => .zpg a
  | .zpx b => .zpx b
  | .abs w => .abs w
  | .abx w => .abx w
  | .aby w => .aby w
  | .inx b => .inx b
  | .iny p => .iny p

/-- The operand of LDX. -/
def srcOfLdx : Mode65.Ldx → Src65
  | .imm v => .imm v
  | .zpg a => .mem (.zpg a)
  | .zpy b => .mem (.zpy b)
  | .abs w => .mem (.abs w)
  | .aby w => .mem (.aby w)

/-- The operand of LDY. -/
def srcOfLdy : Mode65.Ldy → Src65
  | .imm v => .imm v
  | .zpg a => .mem (.zpg a)
  | .zpx b => .mem (.zpx b)
  | .abs w => .mem (.abs w)
  | .abx w => .mem (.abx w)

/-- The address mode of STX. -/
def eaOfStx : Mode65.Stx → Ea65
  | .zpg a => .zpg a
  | .zpy b => .zpy b
  | .abs w => .abs w

/-- The address mode of STY. -/
def eaOfSty : Mode65.Sty → Ea65
  | .zpg a => .zpg a
  | .zpx b => .zpx b
  | .abs w => .abs w

/-- The operand of CPX and CPY. -/
def srcOfCpx : Mode65.Cpx → Src65
  | .imm v => .imm v
  | .zpg a => .mem (.zpg a)
  | .abs w => .mem (.abs w)

/-- The operand of BIT. -/
def srcOfBit : Mode65.Bit → Src65
  | .zpg a => .mem (.zpg a)
  | .abs w => .mem (.abs w)

/-- The operand of INC and DEC. -/
def dstOfInc : Mode65.Inc → Dst65
  | .zpg a => .mem (.zpg a)
  | .zpx b => .mem (.zpx b)
  | .abs w => .mem (.abs w)
  | .abx w => .mem (.abx w)

/-- The operand of ASL, LSR, ROL and ROR. -/
def dstOfShift : Mode65.Shift → Dst65
  | .acc => .acc
  | .zpg a => .mem (.zpg a)
  | .zpx b => .mem (.zpx b)
  | .abs w => .mem (.abs w)
  | .abx w => .mem (.abx w)

/-- The target of JMP (R138, R140). -/
def jmpTarget (s : State) : Mode65.Jmp → Word
  | .abs w => w
  | .ind w => indirectTarget s w

/-! ### M6800 -/

/-- The address-producing modes of the M6800 (R148 to R150). -/
inductive Ea68 where
  | dir (a : Byte)
  | idx (off : Byte)
  | ext (w : Word)
  deriving DecidableEq, Repr

/-- An 8-bit read operand of the M6800: `Imm(v)` or `Address(ea)`. -/
inductive Src68 where
  | imm (v : Byte)
  | mem (ea : Ea68)
  deriving DecidableEq, Repr

/-- A 16-bit read operand of the M6800: `Imm(v)` or `Address(ea)` (R143, R146). -/
inductive Src68W where
  | imm (v : Word)
  | mem (ea : Ea68)
  deriving DecidableEq, Repr

/-- A single-operand instruction's operand on the M6800: an accumulator named by the mnemonic (R145) or `Address(ea)`. -/
inductive Dst68 where
  | accA
  | accB
  | mem (ea : Ea68)
  deriving DecidableEq, Repr

/-- The effective address of a mode (R148, R149, R150). -/
def Ea68.addr (s : State) : Ea68 → Word
  | .dir a => zext16 a
  | .idx off => s.m6800.ix + zext16 off
  | .ext w => w

/-- `M8(operand)` (R143). -/
def Src68.value (s : State) : Src68 → Byte
  | .imm v => v
  | .mem ea => s.readByte (ea.addr s)

/-- `M16(operand)` (R143): high byte first. -/
def Src68W.value (s : State) : Src68W → Word
  | .imm v => v
  | .mem ea => s.readHighFirst (ea.addr s)

/-- The operand of the accumulator instructions with a byte operand. -/
def srcOfRead68 : Mode68.Read → Src68
  | .imm v => .imm v
  | .dir a => .mem (.dir a)
  | .idx off => .mem (.idx off)
  | .ext w => .mem (.ext w)

/-- The operand of LDS, LDX and CPX. -/
def srcOfRead16 : Mode68.Read16 → Src68W
  | .imm16 v => .imm v
  | .dir a => .mem (.dir a)
  | .idx off => .mem (.idx off)
  | .ext w => .mem (.ext w)

/-- The address mode of the M6800 stores. -/
def eaOfStore68 : Mode68.Store → Ea68
  | .dir a => .dir a
  | .idx off => .idx off
  | .ext w => .ext w

/-- The address mode of the memory forms of the single-operand group, and of JMP and JSR. -/
def eaOfMem : Mode68.Mem → Ea68
  | .idx off => .idx off
  | .ext w => .ext w

end Sys2Proof.Machine
end

