-- ==== Sys2Proof/Machine/M6502LoadStore.lean ====
section
/-!
DEFINITION. The M6502's loads, stores and register transfers (43_m6502_load_store_transfer.md).
-/

namespace Sys2Proof.Machine

/-- An M6502 instruction that reads an operand and writes registers and flags only. -/
def read65 (i : Instr) (src : Src65) (f : Byte → Regs65 → Regs65) (s : State) : Result :=
  run i (src.penalty s) (fun t => { t with m6502 := f (src.value t) t.m6502 }) s

/-- An M6502 store (`store8`, R143): one write and no read of the location. -/
def store65 (i : Instr) (ea : Ea65) (value : Regs65 → Byte) (s : State) : Result :=
  run i 0 (fun t => t.writeByte (ea.addr t) (value t.m6502)) s

/-- An M6502 instruction with no operand that changes the register file only. -/
def regs65 (i : Instr) (f : Regs65 → Regs65) (s : State) : Result :=
  run i 0 (fun t => { t with m6502 := f t.m6502 }) s

/-- LDA (R200). -/
def execM6502Lda (m : Mode65.Read) (s : State) : Result :=
  read65 (.m6502Lda m) (srcOfRead m) (fun v r => { zn65 v r with a := v }) s

/-- LDX (R201). -/
def execM6502Ldx (m : Mode65.Ldx) (s : State) : Result :=
  read65 (.m6502Ldx m) (srcOfLdx m) (fun v r => { zn65 v r with x := v }) s

/-- LDY (R202). -/
def execM6502Ldy (m : Mode65.Ldy) (s : State) : Result :=
  read65 (.m6502Ldy m) (srcOfLdy m) (fun v r => { zn65 v r with y := v }) s

/-- STA (R203). -/
def execM6502Sta (m : Mode65.Store) (s : State) : Result :=
  store65 (.m6502Sta m) (eaOfStore m) (fun r => r.a) s

/-- STX (R204). -/
def execM6502Stx (m : Mode65.Stx) (s : State) : Result :=
  store65 (.m6502Stx m) (eaOfStx m) (fun r => r.x) s

/-- STY (R205). -/
def execM6502Sty (m : Mode65.Sty) (s : State) : Result :=
  store65 (.m6502Sty m) (eaOfSty m) (fun r => r.y) s

/-- TAX (R206). -/
def execM6502Tax (s : State) : Result := regs65 .m6502Tax (fun r => { zn65 r.a r with x := r.a }) s

/-- TAY (R207). -/
def execM6502Tay (s : State) : Result := regs65 .m6502Tay (fun r => { zn65 r.a r with y := r.a }) s

/-- TXA (R208). -/
def execM6502Txa (s : State) : Result := regs65 .m6502Txa (fun r => { zn65 r.x r with a := r.x }) s

/-- TYA (R209). -/
def execM6502Tya (s : State) : Result := regs65 .m6502Tya (fun r => { zn65 r.y r with a := r.y }) s

/-- TSX (R210). -/
def execM6502Tsx (s : State) : Result := regs65 .m6502Tsx (fun r => { zn65 r.sp r with x := r.sp }) s

/-- TXS (R211): no flag. -/
def execM6502Txs (s : State) : Result := regs65 .m6502Txs (fun r => { r with sp := r.x }) s

end Sys2Proof.Machine
end

