-- ==== Sys2Proof/Machine/M6502Arith.lean ====
section
/-!
DEFINITION. The M6502's arithmetic, logic, compares, shifts, increments and decrements (44_m6502_arith_logic.md).
-/

namespace Sys2Proof.Machine

/-- `rmw6502(operand, f)` on the state (R240): the accumulator, or one read and one write of the same address. -/
def rmwBody65 (dst : Dst65) (f : Byte → Regs65 → Byte × Regs65) (t : State) : State :=
  match dst with
  | .acc => { t with m6502 := { (f t.m6502.a t.m6502).2 with a := (f t.m6502.a t.m6502).1 } }
  | .mem ea =>
    let out := f (t.readByte (ea.addr t)) t.m6502
    { t.writeByte (ea.addr t) out.1 with m6502 := out.2 }

/-- A read-modify-write instruction of the M6502 (R240). -/
def rmw65 (i : Instr) (dst : Dst65) (f : Byte → Regs65 → Byte × Regs65) (s : State) : Result :=
  run i 0 (rmwBody65 dst f) s

/-- ADC (R220). -/
def execM6502Adc (m : Mode65.Read) (s : State) : Result :=
  read65 (.m6502Adc m) (srcOfRead m) (adc65 s.params.decimal6502) s

/-- SBC (R221). -/
def execM6502Sbc (m : Mode65.Read) (s : State) : Result :=
  read65 (.m6502Sbc m) (srcOfRead m) (sbc65 s.params.decimal6502) s

/-- AND (R222). -/
def execM6502And (m : Mode65.Read) (s : State) : Result :=
  read65 (.m6502And m) (srcOfRead m) (fun v r => { zn65 (r.a &&& v) r with a := r.a &&& v }) s

/-- ORA (R223). -/
def execM6502Ora (m : Mode65.Read) (s : State) : Result :=
  read65 (.m6502Ora m) (srcOfRead m) (fun v r => { zn65 (r.a ||| v) r with a := r.a ||| v }) s

/-- EOR (R224). -/
def execM6502Eor (m : Mode65.Read) (s : State) : Result :=
  read65 (.m6502Eor m) (srcOfRead m) (fun v r => { zn65 (r.a ^^^ v) r with a := r.a ^^^ v }) s

/-- BIT (R225): nothing is stored. -/
def execM6502Bit (m : Mode65.Bit) (s : State) : Result :=
  read65 (.m6502Bit m) (srcOfBit m) bit65 s

/-- CMP (R226): nothing is stored. -/
def execM6502Cmp (m : Mode65.Read) (s : State) : Result :=
  read65 (.m6502Cmp m) (srcOfRead m) (fun v r => cmp65 r.a v r) s

/-- CPX (R227): nothing is stored. -/
def execM6502Cpx (m : Mode65.Cpx) (s : State) : Result :=
  read65 (.m6502Cpx m) (srcOfCpx m) (fun v r => cmp65 r.x v r) s

/-- CPY (R228): nothing is stored. -/
def execM6502Cpy (m : Mode65.Cpx) (s : State) : Result :=
  read65 (.m6502Cpy m) (srcOfCpx m) (fun v r => cmp65 r.y v r) s

/-- INC (R229). -/
def execM6502Inc (m : Mode65.Inc) (s : State) : Result := rmw65 (.m6502Inc m) (dstOfInc m) inc65 s

/-- DEC (R230). -/
def execM6502Dec (m : Mode65.Inc) (s : State) : Result := rmw65 (.m6502Dec m) (dstOfInc m) dec65 s

/-- INX (R231). -/
def execM6502Inx (s : State) : Result := regs65 .m6502Inx (fun r => { (inc65 r.x r).2 with x := (inc65 r.x r).1 }) s

/-- INY (R232). -/
def execM6502Iny (s : State) : Result := regs65 .m6502Iny (fun r => { (inc65 r.y r).2 with y := (inc65 r.y r).1 }) s

/-- DEX (R233). -/
def execM6502Dex (s : State) : Result := regs65 .m6502Dex (fun r => { (dec65 r.x r).2 with x := (dec65 r.x r).1 }) s

/-- DEY (R234). -/
def execM6502Dey (s : State) : Result := regs65 .m6502Dey (fun r => { (dec65 r.y r).2 with y := (dec65 r.y r).1 }) s

/-- ASL (R235). -/
def execM6502Asl (m : Mode65.Shift) (s : State) : Result := rmw65 (.m6502Asl m) (dstOfShift m) asl65 s

/-- LSR (R236). -/
def execM6502Lsr (m : Mode65.Shift) (s : State) : Result := rmw65 (.m6502Lsr m) (dstOfShift m) lsr65 s

/-- ROL (R237). -/
def execM6502Rol (m : Mode65.Shift) (s : State) : Result := rmw65 (.m6502Rol m) (dstOfShift m) rol65 s

/-- ROR (R238). -/
def execM6502Ror (m : Mode65.Shift) (s : State) : Result := rmw65 (.m6502Ror m) (dstOfShift m) ror65 s

end Sys2Proof.Machine
end

