-- ==== Sys2Proof/Machine/M6502Control.lean ====
section
/-!
DEFINITION. The M6502's branches, jumps, subroutines, stack operations, flag operations, BRK and NOP
(45_m6502_control.md).
-/

namespace Sys2Proof.Machine

/-- `extraX` of a taken M6502 branch (R250): 1, and 1 more where the target is on another page than the next instruction. -/
def takenExtra (next target : Word) : Nat := if hi target ≠ hi next then 2 else 1

/-- `branch6502(cond)` (R250): PC after the fetch is the address of the next instruction. -/
def branch65 (i : Instr) (off : Byte) (cond : Regs65 → Bool) (s : State) : Result :=
  let next := (s.advance i.size).pc
  run i (if cond s.m6502 then takenExtra next (relTarget next off) else 0)
    (fun t => if cond t.m6502 then { t with pc := relTarget t.pc off } else t) s

/-- BPL (R251). -/
def execM6502Bpl (off : Byte) (s : State) : Result := branch65 (.m6502Bpl off) off (fun r => !r.n) s

/-- BMI (R252). -/
def execM6502Bmi (off : Byte) (s : State) : Result := branch65 (.m6502Bmi off) off (fun r => r.n) s

/-- BVC (R253). -/
def execM6502Bvc (off : Byte) (s : State) : Result := branch65 (.m6502Bvc off) off (fun r => !r.v) s

/-- BVS (R254). -/
def execM6502Bvs (off : Byte) (s : State) : Result := branch65 (.m6502Bvs off) off (fun r => r.v) s

/-- BCC (R255). -/
def execM6502Bcc (off : Byte) (s : State) : Result := branch65 (.m6502Bcc off) off (fun r => !r.c) s

/-- BCS (R256). -/
def execM6502Bcs (off : Byte) (s : State) : Result := branch65 (.m6502Bcs off) off (fun r => r.c) s

/-- BNE (R257). -/
def execM6502Bne (off : Byte) (s : State) : Result := branch65 (.m6502Bne off) off (fun r => !r.z) s

/-- BEQ (R258). -/
def execM6502Beq (off : Byte) (s : State) : Result := branch65 (.m6502Beq off) off (fun r => r.z) s

/-- JMP (R259). -/
def execM6502Jmp (m : Mode65.Jmp) (s : State) : Result :=
  run (.m6502Jmp m) 0 (fun t => { t with pc := jmpTarget t m }) s

/-- The return address JSR pushes, from the address of the next instruction, by `P_JSR_CONVENTION_6502` (R260). -/
def jsrPushed (c : Config.JsrConvention) (next : Word) : Word :=
  match c with
  | .hw => next - 1
  | .doc => next

/-- The address RTS returns to, from the word it pulls, by `P_JSR_CONVENTION_6502` (R261). -/
def rtsTarget (c : Config.JsrConvention) (pulled : Word) : Word :=
  match c with
  | .hw => pulled + 1
  | .doc => pulled

/-- JSR (R260). -/
def execM6502Jsr (w : Word) (s : State) : Result :=
  run (.m6502Jsr w) 0 (fun t => { push16At65 (jsrPushed t.params.jsrConvention t.pc) t with pc := w }) s

/-- RTS (R261). -/
def execM6502Rts (s : State) : Result :=
  run .m6502Rts 0 (fun t => { pull16At65 t with pc := rtsTarget t.params.jsrConvention (pulled16At65 t) }) s

/-- RTI (R262). -/
def execM6502Rti (s : State) : Result := run .m6502Rti 0 pullFrame65 s

/-- BRK (R263): the padding byte is skipped, not fetched; PC and status with B = 1 are pushed, I is set, and PC is the word
at 0xFFFE. -/
def execM6502Brk (s : State) : Result := run .m6502Brk 0 (fun t => enter65 (t.pc + 1) true 0xFFFE t) s

/-- PHA (R264). -/
def execM6502Pha (s : State) : Result := run .m6502Pha 0 (fun t => push65 t.m6502.a t) s

/-- PHP (R265): bit 4 of the pushed byte is 1. -/
def execM6502Php (s : State) : Result := run .m6502Php 0 (fun t => push65 (getP t.m6502 ||| 0x10#8) t) s

/-- PLA (R266). -/
def execM6502Pla (s : State) : Result :=
  run .m6502Pla 0 (fun t => { t with m6502 := { zn65 (pulled65 t) (pull65 t).m6502 with a := pulled65 t } }) s

/-- PLP (R267). -/
def execM6502Plp (s : State) : Result :=
  run .m6502Plp 0 (fun t => { t with m6502 := setP (pull65 t).m6502 (pulled65 t) }) s

/-- CLC (R268). -/
def execM6502Clc (s : State) : Result := regs65 .m6502Clc (fun r => { r with c := false }) s

/-- SEC (R269). -/
def execM6502Sec (s : State) : Result := regs65 .m6502Sec (fun r => { r with c := true }) s

/-- CLI (R270). -/
def execM6502Cli (s : State) : Result := regs65 .m6502Cli (fun r => { r with i := false }) s

/-- SEI (R271). -/
def execM6502Sei (s : State) : Result := regs65 .m6502Sei (fun r => { r with i := true }) s

/-- CLD (R272). -/
def execM6502Cld (s : State) : Result := regs65 .m6502Cld (fun r => { r with d := false }) s

/-- SED (R273). -/
def execM6502Sed (s : State) : Result := regs65 .m6502Sed (fun r => { r with d := true }) s

/-- CLV (R274). -/
def execM6502Clv (s : State) : Result := regs65 .m6502Clv (fun r => { r with v := false }) s

/-- NOP (R275): nothing beyond the advance of PC. -/
def execM6502Nop (s : State) : Result := run .m6502Nop 0 (fun t => t) s

end Sys2Proof.Machine
end

