-- ==== Sys2Proof/Machine/M6800LoadStore.lean ====
section
/-!
DEFINITION. The M6800's loads, stores, transfers, stack and index operations (46_m6800_load_store_transfer.md).
-/

namespace Sys2Proof.Machine

/-- An M6800 instruction that reads a byte operand and writes registers and flags only. -/
def read68 (i : Instr) (src : Src68) (f : Byte → Regs68 → Regs68) (s : State) : Result :=
  run i 0 (fun t => { t with m6800 := f (src.value t) t.m6800 }) s

/-- An M6800 instruction that reads a 16-bit operand and writes registers and flags only. -/
def read68W (i : Instr) (src : Src68W) (f : Word → Regs68 → Regs68) (s : State) : Result :=
  run i 0 (fun t => { t with m6800 := f (src.value t) t.m6800 }) s

/-- An M6800 8-bit store: unlike the M6502's it writes N, Z and V (R302). -/
def store68 (i : Instr) (ea : Ea68) (value : Regs68 → Byte) (s : State) : Result :=
  run i 0 (fun t => { t.writeByte (ea.addr t) (value t.m6800) with m6800 := nzv0 (value t.m6800) t.m6800 }) s

/-- An M6800 16-bit store, high byte at the lower address (R306, R307). -/
def store68W (i : Instr) (ea : Ea68) (value : Regs68 → Word) (s : State) : Result :=
  run i 0 (fun t => { t.writeHighFirst (ea.addr t) (value t.m6800) with m6800 := nzv0Word (value t.m6800) t.m6800 }) s

/-- An M6800 instruction with no operand that changes the register file only. -/
def regs68 (i : Instr) (f : Regs68 → Regs68) (s : State) : Result :=
  run i 0 (fun t => { t with m6800 := f t.m6800 }) s

/-- LDAA (R300). -/
def execM6800Ldaa (m : Mode68.Read) (s : State) : Result :=
  read68 (.m6800Ldaa m) (srcOfRead68 m) (fun v r => { nzv0 v r with a := v }) s

/-- LDAB (R301). -/
def execM6800Ldab (m : Mode68.Read) (s : State) : Result :=
  read68 (.m6800Ldab m) (srcOfRead68 m) (fun v r => { nzv0 v r with b := v }) s

/-- STAA (R302). -/
def execM6800Staa (m : Mode68.Store) (s : State) : Result :=
  store68 (.m6800Staa m) (eaOfStore68 m) (fun r => r.a) s

/-- STAB (R303). -/
def execM6800Stab (m : Mode68.Store) (s : State) : Result :=
  store68 (.m6800Stab m) (eaOfStore68 m) (fun r => r.b) s

/-- LDS (R304). -/
def execM6800Lds (m : Mode68.Read16) (s : State) : Result :=
  read68W (.m6800Lds m) (srcOfRead16 m) (fun w r => { nzv0Word w r with sp := w }) s

/-- LDX (R305): in mode IDX the address comes from the old IX. -/
def execM6800Ldx (m : Mode68.Read16) (s : State) : Result :=
  read68W (.m6800Ldx m) (srcOfRead16 m) (fun w r => { nzv0Word w r with ix := w }) s

/-- STS (R306). -/
def execM6800Sts (m : Mode68.Store) (s : State) : Result :=
  store68W (.m6800Sts m) (eaOfStore68 m) (fun r => r.sp) s

/-- STX (R307). -/
def execM6800Stx (m : Mode68.Store) (s : State) : Result :=
  store68W (.m6800Stx m) (eaOfStore68 m) (fun r => r.ix) s

/-- TAB (R308). -/
def execM6800Tab (s : State) : Result := regs68 .m6800Tab (fun r => { nzv0 r.a r with b := r.a }) s

/-- TBA (R309). -/
def execM6800Tba (s : State) : Result := regs68 .m6800Tba (fun r => { nzv0 r.b r with a := r.b }) s

/-- TAP (R310). -/
def execM6800Tap (s : State) : Result := regs68 .m6800Tap (fun r => setCC r r.a) s

/-- TPA (R311): no flag. -/
def execM6800Tpa (s : State) : Result := regs68 .m6800Tpa (fun r => { r with a := getCC r }) s

/-- TSX (R312): IX is SP + 1; no flag. -/
def execM6800Tsx (s : State) : Result := regs68 .m6800Tsx (fun r => { r with ix := r.sp + 1 }) s

/-- TXS (R313): SP is IX - 1; no flag. -/
def execM6800Txs (s : State) : Result := regs68 .m6800Txs (fun r => { r with sp := r.ix - 1 }) s

/-- PSHA (R314). -/
def execM6800Psha (s : State) : Result := run .m6800Psha 0 (fun t => push68 t.m6800.a t) s

/-- PSHB (R315). -/
def execM6800Pshb (s : State) : Result := run .m6800Pshb 0 (fun t => push68 t.m6800.b t) s

/-- PULA (R316): no flag. -/
def execM6800Pula (s : State) : Result :=
  run .m6800Pula 0 (fun t => { t with m6800 := { (pull68 t).m6800 with a := pulled68 t } }) s

/-- PULB (R317): no flag. -/
def execM6800Pulb (s : State) : Result :=
  run .m6800Pulb 0 (fun t => { t with m6800 := { (pull68 t).m6800 with b := pulled68 t } }) s

/-- INX (R318): Z only. -/
def execM6800Inx (s : State) : Result :=
  regs68 .m6800Inx (fun r => { r with ix := r.ix + 1, z := decide (r.ix + 1 = 0) }) s

/-- DEX (R319): Z only. -/
def execM6800Dex (s : State) : Result :=
  regs68 .m6800Dex (fun r => { r with ix := r.ix - 1, z := decide (r.ix - 1 = 0) }) s

/-- INS (R320): no flag. -/
def execM6800Ins (s : State) : Result := regs68 .m6800Ins (fun r => { r with sp := r.sp + 1 }) s

/-- DES (R321): no flag. -/
def execM6800Des (s : State) : Result := regs68 .m6800Des (fun r => { r with sp := r.sp - 1 }) s

end Sys2Proof.Machine
end

