-- ==== Sys2Proof/Machine/M6800Arith.lean ====
section
/-!
DEFINITION. The M6800's arithmetic, logic, compares, decimal adjust and single-operand operations
(47_m6800_arith_logic.md).
-/

namespace Sys2Proof.Machine

/-! ### Add, subtract, compare and logic, for either accumulator -/

/-- Which accumulator a mnemonic names (10_state.md R30, 41_addressing_modes.md R145). -/
inductive Acc where
  | a
  | b
  deriving DecidableEq, Repr

/-- The accumulator's value. -/
def Acc.get (acc : Acc) (r : Regs68) : Byte :=
  match acc with
  | .a => r.a
  | .b => r.b

/-- Write the accumulator. -/
def Acc.set (acc : Acc) (v : Byte) (r : Regs68) : Regs68 :=
  match acc with
  | .a => { r with a := v }
  | .b => { r with b := v }

/-- Add to an accumulator, with the flags of `add8` (R330 to R334). -/
def addAcc (acc : Acc) (v : Byte) (cin : Bool) (r : Regs68) : Regs68 :=
  acc.set (add8 (acc.get r) v cin).r (addFlags68 (add8 (acc.get r) v cin) r)

/-- Subtract from an accumulator, with the flags of `sub8_6800` (R335 to R339). -/
def subAcc (acc : Acc) (v : Byte) (bin : Bool) (r : Regs68) : Regs68 :=
  acc.set (sub8 (acc.get r) v bin).r (subFlags68 (sub8 (acc.get r) v bin) r)

/-- Compare with an accumulator: the flags of a subtraction, nothing written (R340 to R342). -/
def cmpAcc (acc : Acc) (v : Byte) (r : Regs68) : Regs68 := subFlags68 (sub8 (acc.get r) v false) r

/-- Put a logical result into an accumulator, with N, Z and V <- 0 (R344, R345, R348 to R351). -/
def logicAcc (acc : Acc) (v : Byte) (r : Regs68) : Regs68 := acc.set v (nzv0 v r)

/-- ADDA (R330). -/
def execM6800Adda (m : Mode68.Read) (s : State) : Result :=
  read68 (.m6800Adda m) (srcOfRead68 m) (fun v r => addAcc .a v false r) s

/-- ADDB (R331). -/
def execM6800Addb (m : Mode68.Read) (s : State) : Result :=
  read68 (.m6800Addb m) (srcOfRead68 m) (fun v r => addAcc .b v false r) s

/-- ADCA (R332). -/
def execM6800Adca (m : Mode68.Read) (s : State) : Result :=
  read68 (.m6800Adca m) (srcOfRead68 m) (fun v r => addAcc .a v r.c r) s

/-- ADCB (R333). -/
def execM6800Adcb (m : Mode68.Read) (s : State) : Result :=
  read68 (.m6800Adcb m) (srcOfRead68 m) (fun v r => addAcc .b v r.c r) s

/-- ABA (R334). -/
def execM6800Aba (s : State) : Result := regs68 .m6800Aba (fun r => addAcc .a r.b false r) s

/-- SUBA (R335). -/
def execM6800Suba (m : Mode68.Read) (s : State) : Result :=
  read68 (.m6800Suba m) (srcOfRead68 m) (fun v r => subAcc .a v false r) s

/-- SUBB (R336). -/
def execM6800Subb (m : Mode68.Read) (s : State) : Result :=
  read68 (.m6800Subb m) (srcOfRead68 m) (fun v r => subAcc .b v false r) s

/-- SBCA (R337). -/
def execM6800Sbca (m : Mode68.Read) (s : State) : Result :=
  read68 (.m6800Sbca m) (srcOfRead68 m) (fun v r => subAcc .a v r.c r) s

/-- SBCB (R338). -/
def execM6800Sbcb (m : Mode68.Read) (s : State) : Result :=
  read68 (.m6800Sbcb m) (srcOfRead68 m) (fun v r => subAcc .b v r.c r) s

/-- SBA (R339). -/
def execM6800Sba (s : State) : Result := regs68 .m6800Sba (fun r => subAcc .a r.b false r) s

/-- CMPA (R340): nothing is stored. -/
def execM6800Cmpa (m : Mode68.Read) (s : State) : Result :=
  read68 (.m6800Cmpa m) (srcOfRead68 m) (fun v r => cmpAcc .a v r) s

/-- CMPB (R341): nothing is stored. -/
def execM6800Cmpb (m : Mode68.Read) (s : State) : Result :=
  read68 (.m6800Cmpb m) (srcOfRead68 m) (fun v r => cmpAcc .b v r) s

/-- CBA (R342): nothing is stored. -/
def execM6800Cba (s : State) : Result := regs68 .m6800Cba (fun r => cmpAcc .a r.b r) s

/-- CPX (R343): nothing is stored. -/
def execM6800Cpx (m : Mode68.Read16) (s : State) : Result :=
  read68W (.m6800Cpx m) (srcOfRead16 m) cpx68 s

/-- ANDA (R344). -/
def execM6800Anda (m : Mode68.Read) (s : State) : Result :=
  read68 (.m6800Anda m) (srcOfRead68 m) (fun v r => logicAcc .a (r.a &&& v) r) s

/-- ANDB (R345). -/
def execM6800Andb (m : Mode68.Read) (s : State) : Result :=
  read68 (.m6800Andb m) (srcOfRead68 m) (fun v r => logicAcc .b (r.b &&& v) r) s

/-- BITA (R346): nothing is stored; N is of the result and V is cleared. -/
def execM6800Bita (m : Mode68.Read) (s : State) : Result :=
  read68 (.m6800Bita m) (srcOfRead68 m) (fun v r => nzv0 (r.a &&& v) r) s

/-- BITB (R347): nothing is stored; N is of the result and V is cleared. -/
def execM6800Bitb (m : Mode68.Read) (s : State) : Result :=
  read68 (.m6800Bitb m) (srcOfRead68 m) (fun v r => nzv0 (r.b &&& v) r) s

/-- EORA (R348). -/
def execM6800Eora (m : Mode68.Read) (s : State) : Result :=
  read68 (.m6800Eora m) (srcOfRead68 m) (fun v r => logicAcc .a (r.a ^^^ v) r) s

/-- EORB (R349). -/
def execM6800Eorb (m : Mode68.Read) (s : State) : Result :=
  read68 (.m6800Eorb m) (srcOfRead68 m) (fun v r => logicAcc .b (r.b ^^^ v) r) s

/-- ORAA (R350). -/
def execM6800Oraa (m : Mode68.Read) (s : State) : Result :=
  read68 (.m6800Oraa m) (srcOfRead68 m) (fun v r => logicAcc .a (r.a ||| v) r) s

/-- ORAB (R351). -/
def execM6800Orab (m : Mode68.Read) (s : State) : Result :=
  read68 (.m6800Orab m) (srcOfRead68 m) (fun v r => logicAcc .b (r.b ||| v) r) s

/-- DAA (R352): V is the next value of the free draw (log entry 4). -/
def execM6800Daa (s : State) : Result :=
  run .m6800Daa 0 (fun t => { t with m6800 := daa68 (Config.freeDaaV t.draws) t.m6800, draws := t.draws + 1 }) s

/-! ### The single-operand group: an accumulator, or memory -/

/-- The operation of a single-operand instruction on the state: an accumulator, or one read and one write of the same
address (`rmw6800`). -/
def rmwBody68 (dst : Dst68) (f : Byte → Regs68 → Byte × Regs68) (t : State) : State :=
  match dst with
  | .accA => { t with m6800 := { (f t.m6800.a t.m6800).2 with a := (f t.m6800.a t.m6800).1 } }
  | .accB => { t with m6800 := { (f t.m6800.b t.m6800).2 with b := (f t.m6800.b t.m6800).1 } }
  | .mem ea =>
    let out := f (t.readByte (ea.addr t)) t.m6800
    { t.writeByte (ea.addr t) out.1 with m6800 := out.2 }

/-- A single-operand instruction that reads and writes its operand. -/
def rmw68 (i : Instr) (dst : Dst68) (f : Byte → Regs68 → Byte × Regs68) (s : State) : Result :=
  run i 0 (rmwBody68 dst f) s

/-- NEGA (R353). -/
def execM6800Nega (s : State) : Result := rmw68 .m6800Nega .accA neg68 s

/-- NEGB (R354). -/
def execM6800Negb (s : State) : Result := rmw68 .m6800Negb .accB neg68 s

/-- NEG (R355). -/
def execM6800Neg (m : Mode68.Mem) (s : State) : Result := rmw68 (.m6800Neg m) (.mem (eaOfMem m)) neg68 s

/-- COMA (R356). -/
def execM6800Coma (s : State) : Result := rmw68 .m6800Coma .accA com68 s

/-- COMB (R357). -/
def execM6800Comb (s : State) : Result := rmw68 .m6800Comb .accB com68 s

/-- COM (R358). -/
def execM6800Com (m : Mode68.Mem) (s : State) : Result := rmw68 (.m6800Com m) (.mem (eaOfMem m)) com68 s

/-- CLRA (R359). -/
def execM6800Clra (s : State) : Result := regs68 .m6800Clra (fun r => { clrFlags68 r with a := 0x00 }) s

/-- CLRB (R360). -/
def execM6800Clrb (s : State) : Result := regs68 .m6800Clrb (fun r => { clrFlags68 r with b := 0x00 }) s

/-- CLR (R361): one write of 0x00 and no read. -/
def execM6800Clr (m : Mode68.Mem) (s : State) : Result :=
  run (.m6800Clr m) 0 (fun t => { t.writeByte ((eaOfMem m).addr t) 0x00 with m6800 := clrFlags68 t.m6800 }) s

/-- TSTA (R362): nothing is written but flags. -/
def execM6800Tsta (s : State) : Result := regs68 .m6800Tsta (fun r => tst68 r.a r) s

/-- TSTB (R363): nothing is written but flags. -/
def execM6800Tstb (s : State) : Result := regs68 .m6800Tstb (fun r => tst68 r.b r) s

/-- TST (R364): one read and no write. -/
def execM6800Tst (m : Mode68.Mem) (s : State) : Result :=
  read68 (.m6800Tst m) (.mem (eaOfMem m)) tst68 s

/-- INCA (R365). -/
def execM6800Inca (s : State) : Result := rmw68 .m6800Inca .accA inc68 s

/-- INCB (R366). -/
def execM6800Incb (s : State) : Result := rmw68 .m6800Incb .accB inc68 s

/-- INC (R367). -/
def execM6800Inc (m : Mode68.Mem) (s : State) : Result := rmw68 (.m6800Inc m) (.mem (eaOfMem m)) inc68 s

/-- DECA (R368). -/
def execM6800Deca (s : State) : Result := rmw68 .m6800Deca .accA dec68 s

/-- DECB (R369). -/
def execM6800Decb (s : State) : Result := rmw68 .m6800Decb .accB dec68 s

/-- DEC (R370). -/
def execM6800Dec (m : Mode68.Mem) (s : State) : Result := rmw68 (.m6800Dec m) (.mem (eaOfMem m)) dec68 s

/-- ASLA (R371). -/
def execM6800Asla (s : State) : Result := rmw68 .m6800Asla .accA asl68 s

/-- ASLB (R372). -/
def execM6800Aslb (s : State) : Result := rmw68 .m6800Aslb .accB asl68 s

/-- ASL (R373). -/
def execM6800Asl (m : Mode68.Mem) (s : State) : Result := rmw68 (.m6800Asl m) (.mem (eaOfMem m)) asl68 s

/-- ASRA (R374). -/
def execM6800Asra (s : State) : Result := rmw68 .m6800Asra .accA asr68 s

/-- ASRB (R375). -/
def execM6800Asrb (s : State) : Result := rmw68 .m6800Asrb .accB asr68 s

/-- ASR (R376). -/
def execM6800Asr (m : Mode68.Mem) (s : State) : Result := rmw68 (.m6800Asr m) (.mem (eaOfMem m)) asr68 s

/-- LSRA (R377). -/
def execM6800Lsra (s : State) : Result := rmw68 .m6800Lsra .accA lsr68 s

/-- LSRB (R378). -/
def execM6800Lsrb (s : State) : Result := rmw68 .m6800Lsrb .accB lsr68 s

/-- LSR (R379). -/
def execM6800Lsr (m : Mode68.Mem) (s : State) : Result := rmw68 (.m6800Lsr m) (.mem (eaOfMem m)) lsr68 s

/-- ROLA (R380). -/
def execM6800Rola (s : State) : Result := rmw68 .m6800Rola .accA rol68 s

/-- ROLB (R381). -/
def execM6800Rolb (s : State) : Result := rmw68 .m6800Rolb .accB rol68 s

/-- ROL (R382). -/
def execM6800Rol (m : Mode68.Mem) (s : State) : Result := rmw68 (.m6800Rol m) (.mem (eaOfMem m)) rol68 s

/-- RORA (R383). -/
def execM6800Rora (s : State) : Result := rmw68 .m6800Rora .accA ror68 s

/-- RORB (R384). -/
def execM6800Rorb (s : State) : Result := rmw68 .m6800Rorb .accB ror68 s

/-- ROR (R385). -/
def execM6800Ror (m : Mode68.Mem) (s : State) : Result := rmw68 (.m6800Ror m) (.mem (eaOfMem m)) ror68 s

end Sys2Proof.Machine
end

