-- ==== Sys2Proof/Machine/M6800Control.lean ====
section
/-!
DEFINITION. The M6800's branches, jumps, subroutines, interrupt instructions, flag operations and NOP
(48_m6800_control.md).
-/

namespace Sys2Proof.Machine

/-- `branch6800(cond)` (R400): no extra cycle, taken or not. -/
def branch68 (i : Instr) (off : Byte) (cond : Regs68 → Bool) (s : State) : Result :=
  run i 0 (fun t => if cond t.m6800 then { t with pc := relTarget t.pc off } else t) s

/-- BRA (R401). -/
def execM6800Bra (off : Byte) (s : State) : Result := branch68 (.m6800Bra off) off (fun _ => true) s

/-- BHI (R402). -/
def execM6800Bhi (off : Byte) (s : State) : Result := branch68 (.m6800Bhi off) off (fun r => !(r.c || r.z)) s

/-- BLS (R403). -/
def execM6800Bls (off : Byte) (s : State) : Result := branch68 (.m6800Bls off) off (fun r => r.c || r.z) s

/-- BCC (R404). -/
def execM6800Bcc (off : Byte) (s : State) : Result := branch68 (.m6800Bcc off) off (fun r => !r.c) s

/-- BCS (R405). -/
def execM6800Bcs (off : Byte) (s : State) : Result := branch68 (.m6800Bcs off) off (fun r => r.c) s

/-- BNE (R406). -/
def execM6800Bne (off : Byte) (s : State) : Result := branch68 (.m6800Bne off) off (fun r => !r.z) s

/-- BEQ (R407). -/
def execM6800Beq (off : Byte) (s : State) : Result := branch68 (.m6800Beq off) off (fun r => r.z) s

/-- BVC (R408). -/
def execM6800Bvc (off : Byte) (s : State) : Result := branch68 (.m6800Bvc off) off (fun r => !r.v) s

/-- BVS (R409). -/
def execM6800Bvs (off : Byte) (s : State) : Result := branch68 (.m6800Bvs off) off (fun r => r.v) s

/-- BPL (R410). -/
def execM6800Bpl (off : Byte) (s : State) : Result := branch68 (.m6800Bpl off) off (fun r => !r.n) s

/-- BMI (R411). -/
def execM6800Bmi (off : Byte) (s : State) : Result := branch68 (.m6800Bmi off) off (fun r => r.n) s

/-- BGE (R412). -/
def execM6800Bge (off : Byte) (s : State) : Result := branch68 (.m6800Bge off) off (fun r => !(r.n ^^ r.v)) s

/-- BLT (R413). -/
def execM6800Blt (off : Byte) (s : State) : Result := branch68 (.m6800Blt off) off (fun r => r.n ^^ r.v) s

/-- BGT (R414). -/
def execM6800Bgt (off : Byte) (s : State) : Result := branch68 (.m6800Bgt off) off (fun r => !(r.z || (r.n ^^ r.v))) s

/-- BLE (R415). -/
def execM6800Ble (off : Byte) (s : State) : Result := branch68 (.m6800Ble off) off (fun r => r.z || (r.n ^^ r.v)) s

/-- BSR (R416): the address of the next instruction is pushed. -/
def execM6800Bsr (off : Byte) (s : State) : Result :=
  run (.m6800Bsr off) 0 (fun t => { push16At68 t.pc t with pc := relTarget t.pc off }) s

/-- JMP (R417). -/
def execM6800Jmp (m : Mode68.Mem) (s : State) : Result :=
  run (.m6800Jmp m) 0 (fun t => { t with pc := (eaOfMem m).addr t }) s

/-- JSR (R418): the target is computed before the push. -/
def execM6800Jsr (m : Mode68.Mem) (s : State) : Result :=
  run (.m6800Jsr m) 0 (fun t => { push16At68 t.pc t with pc := (eaOfMem m).addr t }) s

/-- RTS (R419): no correction of the pulled address. -/
def execM6800Rts (s : State) : Result := run .m6800Rts 0 (fun t => { pull16At68 t with pc := pulled16At68 t }) s

/-- RTI (R420). -/
def execM6800Rti (s : State) : Result := run .m6800Rti 0 pullFrame68 s

/-- SWI (R421): the frame has the old I. -/
def execM6800Swi (s : State) : Result := run .m6800Swi 0 (enter68 0xFFFA) s

/-- WAI (R422): the frame is stacked now; I is not changed. -/
def execM6800Wai (s : State) : Result := run .m6800Wai 0 (fun t => { pushFrame68 t with waiting := true }) s

/-- NOP (R423). -/
def execM6800Nop (s : State) : Result := run .m6800Nop 0 (fun t => t) s

/-- CLC (R424). -/
def execM6800Clc (s : State) : Result := regs68 .m6800Clc (fun r => { r with c := false }) s

/-- SEC (R425). -/
def execM6800Sec (s : State) : Result := regs68 .m6800Sec (fun r => { r with c := true }) s

/-- CLI (R426). -/
def execM6800Cli (s : State) : Result := regs68 .m6800Cli (fun r => { r with i := false }) s

/-- SEI (R427). -/
def execM6800Sei (s : State) : Result := regs68 .m6800Sei (fun r => { r with i := true }) s

/-- CLV (R428). -/
def execM6800Clv (s : State) : Result := regs68 .m6800Clv (fun r => { r with v := false }) s

/-- SEV (R429). -/
def execM6800Sev (s : State) : Result := regs68 .m6800Sev (fun r => { r with v := true }) s

end Sys2Proof.Machine
end

