-- ==== Sys2Proof/Machine/Dispatch.lean ====
section
/-!
DEFINITION. The dispatch: one arm per constructor of Instr, each the direct call of that instruction's meaning.
-/

namespace Sys2Proof.Machine

def exec (i : Instr) (s : State) : Host.Outcome State Fault Refusal :=
  match i with
  | .m6502Lda m => Sys2Proof.Machine.execM6502Lda m s
  | .m6502Ldx m => Sys2Proof.Machine.execM6502Ldx m s
  | .m6502Ldy m => Sys2Proof.Machine.execM6502Ldy m s
  | .m6502Sta m => Sys2Proof.Machine.execM6502Sta m s
  | .m6502Stx m => Sys2Proof.Machine.execM6502Stx m s
  | .m6502Sty m => Sys2Proof.Machine.execM6502Sty m s
  | .m6502Tax => Sys2Proof.Machine.execM6502Tax s
  | .m6502Tay => Sys2Proof.Machine.execM6502Tay s
  | .m6502Txa => Sys2Proof.Machine.execM6502Txa s
  | .m6502Tya => Sys2Proof.Machine.execM6502Tya s
  | .m6502Tsx => Sys2Proof.Machine.execM6502Tsx s
  | .m6502Txs => Sys2Proof.Machine.execM6502Txs s
  | .m6502Adc m => Sys2Proof.Machine.execM6502Adc m s
  | .m6502Sbc m => Sys2Proof.Machine.execM6502Sbc m s
  | .m6502And m => Sys2Proof.Machine.execM6502And m s
  | .m6502Ora m => Sys2Proof.Machine.execM6502Ora m s
  | .m6502Eor m => Sys2Proof.Machine.execM6502Eor m s
  | .m6502Bit m => Sys2Proof.Machine.execM6502Bit m s
  | .m6502Cmp m => Sys2Proof.Machine.execM6502Cmp m s
  | .m6502Cpx m => Sys2Proof.Machine.execM6502Cpx m s
  | .m6502Cpy m => Sys2Proof.Machine.execM6502Cpy m s
  | .m6502Inc m => Sys2Proof.Machine.execM6502Inc m s
  | .m6502Dec m => Sys2Proof.Machine.execM6502Dec m s
  | .m6502Inx => Sys2Proof.Machine.execM6502Inx s
  | .m6502Iny => Sys2Proof.Machine.execM6502Iny s
  | .m6502Dex => Sys2Proof.Machine.execM6502Dex s
  | .m6502Dey => Sys2Proof.Machine.execM6502Dey s
  | .m6502Asl m => Sys2Proof.Machine.execM6502Asl m s
  | .m6502Lsr m => Sys2Proof.Machine.execM6502Lsr m s
  | .m6502Rol m => Sys2Proof.Machine.execM6502Rol m s
  | .m6502Ror m => Sys2Proof.Machine.execM6502Ror m s
  | .m6502Bpl off => Sys2Proof.Machine.execM6502Bpl off s
  | .m6502Bmi off => Sys2Proof.Machine.execM6502Bmi off s
  | .m6502Bvc off => Sys2Proof.Machine.execM6502Bvc off s
  | .m6502Bvs off => Sys2Proof.Machine.execM6502Bvs off s
  | .m6502Bcc off => Sys2Proof.Machine.execM6502Bcc off s
  | .m6502Bcs off => Sys2Proof.Machine.execM6502Bcs off s
  | .m6502Bne off => Sys2Proof.Machine.execM6502Bne off s
  | .m6502Beq off => Sys2Proof.Machine.execM6502Beq off s
  | .m6502Jmp m => Sys2Proof.Machine.execM6502Jmp m s
  | .m6502Jsr w => Sys2Proof.Machine.execM6502Jsr w s
  | .m6502Rts => Sys2Proof.Machine.execM6502Rts s
  | .m6502Rti => Sys2Proof.Machine.execM6502Rti s
  | .m6502Brk => Sys2Proof.Machine.execM6502Brk s
  | .m6502Pha => Sys2Proof.Machine.execM6502Pha s
  | .m6502Php => Sys2Proof.Machine.execM6502Php s
  | .m6502Pla => Sys2Proof.Machine.execM6502Pla s
  | .m6502Plp => Sys2Proof.Machine.execM6502Plp s
  | .m6502Clc => Sys2Proof.Machine.execM6502Clc s
  | .m6502Sec => Sys2Proof.Machine.execM6502Sec s
  | .m6502Cli => Sys2Proof.Machine.execM6502Cli s
  | .m6502Sei => Sys2Proof.Machine.execM6502Sei s
  | .m6502Cld => Sys2Proof.Machine.execM6502Cld s
  | .m6502Sed => Sys2Proof.Machine.execM6502Sed s
  | .m6502Clv => Sys2Proof.Machine.execM6502Clv s
  | .m6502Nop => Sys2Proof.Machine.execM6502Nop s
  | .m6800Ldaa m => Sys2Proof.Machine.execM6800Ldaa m s
  | .m6800Ldab m => Sys2Proof.Machine.execM6800Ldab m s
  | .m6800Staa m => Sys2Proof.Machine.execM6800Staa m s
  | .m6800Stab m => Sys2Proof.Machine.execM6800Stab m s
  | .m6800Lds m => Sys2Proof.Machine.execM6800Lds m s
  | .m6800Ldx m => Sys2Proof.Machine.execM6800Ldx m s
  | .m6800Sts m => Sys2Proof.Machine.execM6800Sts m s
  | .m6800Stx m => Sys2Proof.Machine.execM6800Stx m s
  | .m6800Tab => Sys2Proof.Machine.execM6800Tab s
  | .m6800Tba => Sys2Proof.Machine.execM6800Tba s
  | .m6800Tap => Sys2Proof.Machine.execM6800Tap s
  | .m6800Tpa => Sys2Proof.Machine.execM6800Tpa s
  | .m6800Tsx => Sys2Proof.Machine.execM6800Tsx s
  | .m6800Txs => Sys2Proof.Machine.execM6800Txs s
  | .m6800Psha => Sys2Proof.Machine.execM6800Psha s
  | .m6800Pshb => Sys2Proof.Machine.execM6800Pshb s
  | .m6800Pula => Sys2Proof.Machine.execM6800Pula s
  | .m6800Pulb => Sys2Proof.Machine.execM6800Pulb s
  | .m6800Inx => Sys2Proof.Machine.execM6800Inx s
  | .m6800Dex => Sys2Proof.Machine.execM6800Dex s
  | .m6800Ins => Sys2Proof.Machine.execM6800Ins s
  | .m6800Des => Sys2Proof.Machine.execM6800Des s
  | .m6800Adda m => Sys2Proof.Machine.execM6800Adda m s
  | .m6800Addb m => Sys2Proof.Machine.execM6800Addb m s
  | .m6800Adca m => Sys2Proof.Machine.execM6800Adca m s
  | .m6800Adcb m => Sys2Proof.Machine.execM6800Adcb m s
  | .m6800Aba => Sys2Proof.Machine.execM6800Aba s
  | .m6800Suba m => Sys2Proof.Machine.execM6800Suba m s
  | .m6800Subb m => Sys2Proof.Machine.execM6800Subb m s
  | .m6800Sbca m => Sys2Proof.Machine.execM6800Sbca m s
  | .m6800Sbcb m => Sys2Proof.Machine.execM6800Sbcb m s
  | .m6800Sba => Sys2Proof.Machine.execM6800Sba s
  | .m6800Cmpa m => Sys2Proof.Machine.execM6800Cmpa m s
  | .m6800Cmpb m => Sys2Proof.Machine.execM6800Cmpb m s
  | .m6800Cba => Sys2Proof.Machine.execM6800Cba s
  | .m6800Cpx m => Sys2Proof.Machine.execM6800Cpx m s
  | .m6800Anda m => Sys2Proof.Machine.execM6800Anda m s
  | .m6800Andb m => Sys2Proof.Machine.execM6800Andb m s
  | .m6800Bita m => Sys2Proof.Machine.execM6800Bita m s
  | .m6800Bitb m => Sys2Proof.Machine.execM6800Bitb m s
  | .m6800Eora m => Sys2Proof.Machine.execM6800Eora m s
  | .m6800Eorb m => Sys2Proof.Machine.execM6800Eorb m s
  | .m6800Oraa m => Sys2Proof.Machine.execM6800Oraa m s
  | .m6800Orab m => Sys2Proof.Machine.execM6800Orab m s
  | .m6800Daa => Sys2Proof.Machine.execM6800Daa s
  | .m6800Nega => Sys2Proof.Machine.execM6800Nega s
  | .m6800Negb => Sys2Proof.Machine.execM6800Negb s
  | .m6800Neg m => Sys2Proof.Machine.execM6800Neg m s
  | .m6800Coma => Sys2Proof.Machine.execM6800Coma s
  | .m6800Comb => Sys2Proof.Machine.execM6800Comb s
  | .m6800Com m => Sys2Proof.Machine.execM6800Com m s
  | .m6800Clra => Sys2Proof.Machine.execM6800Clra s
  | .m6800Clrb => Sys2Proof.Machine.execM6800Clrb s
  | .m6800Clr m => Sys2Proof.Machine.execM6800Clr m s
  | .m6800Tsta => Sys2Proof.Machine.execM6800Tsta s
  | .m6800Tstb => Sys2Proof.Machine.execM6800Tstb s
  | .m6800Tst m => Sys2Proof.Machine.execM6800Tst m s
  | .m6800Inca => Sys2Proof.Machine.execM6800Inca s
  | .m6800Incb => Sys2Proof.Machine.execM6800Incb s
  | .m6800Inc m => Sys2Proof.Machine.execM6800Inc m s
  | .m6800Deca => Sys2Proof.Machine.execM6800Deca s
  | .m6800Decb => Sys2Proof.Machine.execM6800Decb s
  | .m6800Dec m => Sys2Proof.Machine.execM6800Dec m s
  | .m6800Asla => Sys2Proof.Machine.execM6800Asla s
  | .m6800Aslb => Sys2Proof.Machine.execM6800Aslb s
  | .m6800Asl m => Sys2Proof.Machine.execM6800Asl m s
  | .m6800Asra => Sys2Proof.Machine.execM6800Asra s
  | .m6800Asrb => Sys2Proof.Machine.execM6800Asrb s
  | .m6800Asr m => Sys2Proof.Machine.execM6800Asr m s
  | .m6800Lsra => Sys2Proof.Machine.execM6800Lsra s
  | .m6800Lsrb => Sys2Proof.Machine.execM6800Lsrb s
  | .m6800Lsr m => Sys2Proof.Machine.execM6800Lsr m s
  | .m6800Rola => Sys2Proof.Machine.execM6800Rola s
  | .m6800Rolb => Sys2Proof.Machine.execM6800Rolb s
  | .m6800Rol m => Sys2Proof.Machine.execM6800Rol m s
  | .m6800Rora => Sys2Proof.Machine.execM6800Rora s
  | .m6800Rorb => Sys2Proof.Machine.execM6800Rorb s
  | .m6800Ror m => Sys2Proof.Machine.execM6800Ror m s
  | .m6800Bra off => Sys2Proof.Machine.execM6800Bra off s
  | .m6800Bhi off => Sys2Proof.Machine.execM6800Bhi off s
  | .m6800Bls off => Sys2Proof.Machine.execM6800Bls off s
  | .m6800Bcc off => Sys2Proof.Machine.execM6800Bcc off s
  | .m6800Bcs off => Sys2Proof.Machine.execM6800Bcs off s
  | .m6800Bne off => Sys2Proof.Machine.execM6800Bne off s
  | .m6800Beq off => Sys2Proof.Machine.execM6800Beq off s
  | .m6800Bvc off => Sys2Proof.Machine.execM6800Bvc off s
  | .m6800Bvs off => Sys2Proof.Machine.execM6800Bvs off s
  | .m6800Bpl off => Sys2Proof.Machine.execM6800Bpl off s
  | .m6800Bmi off => Sys2Proof.Machine.execM6800Bmi off s
  | .m6800Bge off => Sys2Proof.Machine.execM6800Bge off s
  | .m6800Blt off => Sys2Proof.Machine.execM6800Blt off s
  | .m6800Bgt off => Sys2Proof.Machine.execM6800Bgt off s
  | .m6800Ble off => Sys2Proof.Machine.execM6800Ble off s
  | .m6800Bsr off => Sys2Proof.Machine.execM6800Bsr off s
  | .m6800Jmp m => Sys2Proof.Machine.execM6800Jmp m s
  | .m6800Jsr m => Sys2Proof.Machine.execM6800Jsr m s
  | .m6800Rts => Sys2Proof.Machine.execM6800Rts s
  | .m6800Rti => Sys2Proof.Machine.execM6800Rti s
  | .m6800Swi => Sys2Proof.Machine.execM6800Swi s
  | .m6800Wai => Sys2Proof.Machine.execM6800Wai s
  | .m6800Nop => Sys2Proof.Machine.execM6800Nop s
  | .m6800Clc => Sys2Proof.Machine.execM6800Clc s
  | .m6800Sec => Sys2Proof.Machine.execM6800Sec s
  | .m6800Cli => Sys2Proof.Machine.execM6800Cli s
  | .m6800Sei => Sys2Proof.Machine.execM6800Sei s
  | .m6800Clv => Sys2Proof.Machine.execM6800Clv s
  | .m6800Sev => Sys2Proof.Machine.execM6800Sev s

end Sys2Proof.Machine
end

