-- ==== Sys2Proof/Machine/Interrupts.lean ====
section
/-!
DEFINITION. Interrupt selection and service, and the WAI wait (60_exceptions.md sections 2 and 3). Each operation runs in
place of an opcode fetch, on an Idle tick; `Tick.lean` says when.
-/

namespace Sys2Proof.Machine

/-- The two interrupts a boundary can take (R510, R520). -/
inductive Interrupt where
  | nmi
  | irq
  deriving DecidableEq, Repr

/-- The I flag of the engine's profile (R510, R520): it masks IRQ and nothing else. -/
def State.irqMasked (s : State) : Bool :=
  match s.profile with
  | .m6502 => s.m6502.i
  | .m6800 => s.m6800.i

/-- `interruptToTake()` (R510, R520): NMI by its latch, then IRQ by its level where I = 0. -/
def interruptToTake (s : State) : Option Interrupt :=
  if s.nmiPending then some .nmi else if s.irqLine && !s.irqMasked then some .irq else none

/-- NMI service begins: its latch is cleared (R511); IRQ has no latch. -/
def State.acknowledge (s : State) (k : Interrupt) : State :=
  match k with
  | .nmi => { s with nmiPending := false }
  | .irq => s

/-- The M6502 vector of an interrupt (R512, R513). -/
def vectorOf65 (k : Interrupt) : Word :=
  match k with
  | .nmi => 0xFFFA
  | .irq => 0xFFFE

/-- The M6800 vector of an interrupt (R521, R522). -/
def vectorOf68 (k : Interrupt) : Word :=
  match k with
  | .nmi => 0xFFFC
  | .irq => 0xFFF8

/-- `service6502(k)` (R512): the frame is pushed with B = 0, I is set, PC is the word at the vector; 7 ticks. -/
def service65 (k : Interrupt) (s : State) : State :=
  (enter65 s.pc false (vectorOf65 k) (s.acknowledge k)).charge 7

/-- `service6800(k)` (R522): the seven-byte frame is pushed with the old I, I is set, PC is the word at the vector;
12 ticks. -/
def service68 (k : Interrupt) (s : State) : State := (enter68 (vectorOf68 k) (s.acknowledge k)).charge 12

/-- Interrupt service by profile (R512, R522). -/
def service (k : Interrupt) (s : State) : State :=
  match s.profile with
  | .m6502 => service65 k s
  | .m6800 => service68 k s

/-- The end of a WAI wait (R523): no frame is pushed, since WAI pushed it; `P_WAI_WAKE_CYCLES` ticks. -/
def wake68 (k : Interrupt) (s : State) : State :=
  (vector68 (vectorOf68 k) { s.acknowledge k with waiting := false }).charge s.params.waiWakeCycles

/-- `waitTick()` (R523): nothing changes until an interrupt ends the wait. -/
def waitTick (s : State) : State :=
  match interruptToTake s with
  | none => s
  | some k => wake68 k s

end Sys2Proof.Machine
end

