-- ==== Sys2Proof/Machine/Tick.lean ====
section
/-!
DEFINITION. One `advanceClock()` call (40_execution_cycle.md R100, R101): the countdown, the checks of an Idle tick in their
order (60_exceptions.md R530), and the fetch with its faults (R501, R502). `Step.lean` calls it.
-/

namespace Sys2Proof.Machine

/-- The instruction whose bytes stand at PC, or none where the opcode byte is absent from the profile's table
(30_encoding.md R90, R91). The two bytes after the opcode are read whether the instruction has them or not, which nothing
can show: a read has no side effect (20_memory.md R61; DEDUCED, log entry 21). -/
def State.fetched (s : State) : Option Instr :=
  decodeAt s.profile (s.readByte s.pc) (s.readByte (s.pc + 1)) (s.readByte (s.pc + 2))

/-- The fetching part of an Idle tick (40_execution_cycle.md R101): UnknownOpcode before UnimplementedInstruction
(60_exceptions.md R505), and else the instruction. A fault leaves the state as it was (R500). -/
def fetchAndExecute (s : State) : Result :=
  match s.fetched with
  | none => .fault (.unknownOpcode (s.readByte s.pc) s.pc)
  | some i =>
    if s.params.unimplemented.contains (s.readByte s.pc) then
      .fault (.unimplementedInstruction (s.readByte s.pc) s.pc)
    else exec i s

/-- An Idle tick where the pins are read (60_exceptions.md R530): HALT, then the WAI wait, then an interrupt, then the
fetch. -/
def servicedTick (s : State) : Result :=
  if s.profile = .m6800 ∧ s.haltLine then .next s
  else if s.profile = .m6800 ∧ s.waiting then .next (waitTick s)
  else
    match interruptToTake s with
    | some k => .next (service k s)
    | none => fetchAndExecute s

/-- An Idle tick where `P_INTERRUPTS = ignored` (60_exceptions.md R524): a WAI wait never ends, and no pin is read. -/
def ignoredTick (s : State) : Result :=
  if s.profile = .m6800 ∧ s.waiting then .next s else fetchAndExecute s

/-- An Idle tick (40_execution_cycle.md R101). -/
def idleTick (s : State) : Result :=
  match s.params.interrupts with
  | .serviced => servicedTick s
  | .ignored => ignoredTick s

/-- `advanceClock()` (40_execution_cycle.md R101): an Executing tick only counts down (R102). -/
def tick (s : State) : Result :=
  if 0 < s.remaining then .next { s with remaining := s.remaining - 1 } else idleTick s

end Sys2Proof.Machine
end

