-- ==== Sys2Proof/Machine/Step.lean ====
section
/-!
DEFINITION. The step of the machine, and how the host's check places one instruction where the next step fetches it.
-/

namespace Sys2Proof.Machine

/-- One step is one `advanceClock()` call (40_execution_cycle.md R100). -/
def step (s : State) : Host.Outcome State Fault Refusal := tick s

/-- The instruction of a table word stored at PC, on an Idle engine of the profile whose table has it, with no pin asserted
and no wait, so that the next step fetches and runs it (log entries 6 and 7). -/
def State.withFetchWord (s : State) (nbits w : Nat) : State :=
  let bytes := tableBytes nbits w
  let t := ((s.writeByte s.pc (bytes.getD 0 0)).writeByte (s.pc + 1) (bytes.getD 1 0)).writeByte (s.pc + 2)
    (bytes.getD 2 0)
  { t with
    profile := tableProfile s.profile nbits w
    remaining := 0
    irqLine := false
    nmiPending := false
    haltLine := false
    waiting := false }

end Sys2Proof.Machine
end

