-- ==== Sys2Proof/Safety.lean ====
section
/-!
DEFINITION. The terms claims are stated in: what an instruction's first tick does (its result and its frame), the numbers
behind the flags, and the invariant every step keeps. No claim is about a program.
-/

namespace Sys2Proof.Machine

/-! ### Flags in numbers -/

/-- Z of a byte: its number is 0 (42_alu.md R160). -/
def zeroOf (n : Nat) : Bool := decide (n % 256 = 0)

/-- N of a byte: its number is 128 or more (42_alu.md R160). -/
def negativeOf (n : Nat) : Bool := decide (128 ≤ n % 256)

/-- A signed 8-bit result that does not fit. -/
def overflows (v : Int) : Bool := decide (v < -128) || decide (127 < v)

/-- A byte whose two nibbles are decimal digits. -/
def isBcd (b : Byte) : Prop := b.toNat / 16 ≤ 9 ∧ b.toNat % 16 ≤ 9

/-- The number a byte of two decimal digits stands for. -/
def bcdValue (b : Byte) : Nat := b.toNat / 16 * 10 + b.toNat % 16

/-! ### What an instruction does -/

/-- The byte at `a` after the writes of the list, the latest write first, over the memory of `s`. -/
def bytesAfter (s : State) : List (Word × Byte) → Word → Byte
  | [], a => s.readByte a
  | (k, v) :: earlier, a => if a = k then v else bytesAfter s earlier a

/-- Every byte of `t` reads as in `s`, but for the writes of the list (the latest first). With the empty list every byte of
memory reads as before. -/
def Wrote (s t : State) (writes : List (Word × Byte)) : Prop := ∀ a : Word, t.readByte a = bytesAfter s writes a

/-- On `s` the M6502 instruction `i` answers a next state: its register file is `r`, its PC is `pc`, its memory is that of
`s` with the writes of the list and no other, `total` ticks are counted, and nothing else of the state differs from `s`. -/
def Runs65 (i : Instr) (s : State) (r : Regs65) (pc : Word) (writes : List (Word × Byte)) (total : Nat) : Prop :=
  ∃ t, exec i s = .next t ∧ Wrote s t writes ∧
    t = { s with m6502 := r, pc := pc, mem := t.mem, remaining := total - 1 }

/-- On `s` the M6800 instruction `i` answers a next state: its register file is `r`, its PC is `pc`, its memory is that of
`s` with the writes of the list and no other, `total` ticks are counted, and nothing else of the state differs from `s`. -/
def Runs68 (i : Instr) (s : State) (r : Regs68) (pc : Word) (writes : List (Word × Byte)) (total : Nat) : Prop :=
  ∃ t, exec i s = .next t ∧ Wrote s t writes ∧
    t = { s with m6800 := r, pc := pc, mem := t.mem, remaining := total - 1 }

/-- The address of the instruction after `i` at PC (10_state.md R22, R33). -/
def State.after (s : State) (i : Instr) : Word := s.pc + BitVec.ofNat 16 i.size

/-- `Runs65` for an instruction that transfers no control: PC is at the next instruction, and the ticks are the base cycles
and `extra`. -/
def Plain65 (i : Instr) (s : State) (r : Regs65) (writes : List (Word × Byte)) (extra : Nat) : Prop :=
  Runs65 i s r (s.after i) writes (s.cyclesOf i + extra)

/-- `Runs68` for an instruction that transfers no control: PC is at the next instruction, and the ticks are the base
cycles. -/
def Plain68 (i : Instr) (s : State) (r : Regs68) (writes : List (Word × Byte)) : Prop :=
  Runs68 i s r (s.after i) writes (s.cyclesOf i)

/-- An M6502 branch with condition `taken`: 2 bytes, the target from the next instruction by the signed offset, 1 more tick
if taken and 2 more if taken to another page. -/
def Branch65 (i : Instr) (s : State) (off : Byte) (taken : Bool) : Prop :=
  let next := s.pc + 2
  let target := BitVec.ofInt 16 (s.pc.toNat + 2 + off.toInt)
  Runs65 i s s.m6502 (if taken then target else next) []
    (s.cyclesOf i + if taken then (if target.toNat / 256 = next.toNat / 256 then 1 else 2) else 0)

/-- An M6800 branch with condition `taken`: 2 bytes, the target from the next instruction by the signed offset, and the same
ticks whether taken or not. -/
def Branch68 (i : Instr) (s : State) (off : Byte) (taken : Bool) : Prop :=
  Runs68 i s s.m6800 (if taken then BitVec.ofInt 16 (s.pc.toNat + 2 + off.toInt) else s.pc + 2) [] (s.cyclesOf i)

/-- An M6502 shift or rotate in any of its modes: the operand `x` becomes `f x C` (mod 256) in A or at the effective address,
C becomes `carry x`, and N and Z are those of the result. -/
def Shift65 (i : Instr) (s : State) (m : Mode65.Shift) (f : Nat → Nat → Nat) (carry : Nat → Bool) : Prop :=
  let r := s.m6502
  match dstOfShift m with
  | .acc =>
    let out := f r.a.toNat (bit r.c)
    Plain65 i s { r with a := BitVec.ofNat 8 out, c := carry r.a.toNat, z := zeroOf out, n := negativeOf out } [] 0
  | .mem ea =>
    let x := (s.readByte (ea.addr s)).toNat
    let out := f x (bit r.c)
    Plain65 i s { r with c := carry x, z := zeroOf out, n := negativeOf out } [(ea.addr s, BitVec.ofNat 8 out)] 0

/-- A single-operand M6800 mnemonic in its three spellings: on A, on B and on memory, the operand becomes `f x r` and the
register file `g x r`, where `x` is the operand and `r` the register file before; the memory form stores to the effective
address of its mode and nowhere else. -/
def SingleOperand (onA onB : Instr) (onMem : Mode68.Mem → Instr) (f : Byte → Regs68 → Byte)
    (g : Byte → Regs68 → Regs68) : Prop :=
  ∀ s : State, s.profile = .m6800 →
    let r := s.m6800
    Plain68 onA s { g r.a r with a := f r.a r } [] ∧
    Plain68 onB s { g r.b r with b := f r.b r } [] ∧
    ∀ m : Mode68.Mem,
      let ea := (eaOfMem m).addr s
      Plain68 (onMem m) s (g (s.readByte ea) r) [(ea, f (s.readByte ea) r)]

/-- A shift or rotate of the M6800 in its three spellings: the operand `x` becomes `f x C` (mod 256), C becomes `carry x`, N
and Z are those of the result, and V is N xor the new C. -/
def Shift68 (onA onB : Instr) (onMem : Mode68.Mem → Instr) (f : Nat → Nat → Nat) (carry : Nat → Bool) : Prop :=
  SingleOperand onA onB onMem (fun x r => BitVec.ofNat 8 (f x.toNat (bit r.c)))
    (fun x r =>
      let out := f x.toNat (bit r.c)
      { r with n := negativeOf out, z := zeroOf out, v := negativeOf out ^^ carry x.toNat, c := carry x.toNat })

/-! ### Stacked words and frames -/

/-- The two writes of a 16-bit push on the M6502 (40_execution_cycle.md R112), from stack pointer `sp`, the latest first. -/
def pushedWord65 (order : Config.StackOrder) (sp : Byte) (w : Word) : List (Word × Byte) :=
  match order with
  | .hiFirst => [(stackAddr65 (sp - 1), lo w), (stackAddr65 sp, hi w)]
  | .loFirst => [(stackAddr65 (sp - 1), hi w), (stackAddr65 sp, lo w)]

/-- The word a 16-bit pull on the M6502 takes (40_execution_cycle.md R112), from stack pointer `sp`. -/
def stackedWord65 (s : State) (sp : Byte) : Word :=
  match s.params.stackOrder with
  | .hiFirst => w16 (s.readByte (stackAddr65 (sp + 2))) (s.readByte (stackAddr65 (sp + 1)))
  | .loFirst => w16 (s.readByte (stackAddr65 (sp + 1))) (s.readByte (stackAddr65 (sp + 2)))

/-- The writes of an M6502 frame (40_execution_cycle.md R116) with status byte `p`, the latest first. -/
def frameWrites65 (order : Config.StackOrder) (sp : Byte) (pc : Word) (p : Byte) : List (Word × Byte) :=
  (stackAddr65 (sp - 2), p) :: pushedWord65 order sp pc

/-- The writes of an M6800 frame (40_execution_cycle.md R115), the latest first: CC, B, A, IXH, IXL, PCH, PCL upward from
S - 6. -/
def frameWrites68 (r : Regs68) (pc : Word) : List (Word × Byte) :=
  [(r.sp - 6, getCC r), (r.sp - 5, r.b), (r.sp - 4, r.a), (r.sp - 3, hi r.ix), (r.sp - 2, lo r.ix), (r.sp - 1, hi pc),
   (r.sp, lo pc)]

/-! ### Where a tick fetches -/

/-- None of the checks before the fetch applies (60_exceptions.md R530, 1 to 6). -/
def State.fetches (s : State) : Prop :=
  s.remaining = 0 ∧
    match s.params.interrupts with
    | .serviced =>
      (s.profile = .m6800 → s.haltLine = false ∧ s.waiting = false) ∧ s.nmiPending = false ∧
        (s.irqLine = true → s.irqMasked = true)
    | .ignored => s.profile = .m6800 → s.waiting = false

/-! ### What does not depend on cycle counts -/

/-- The state with the cycle counts left out (70_reset_and_hazards.md R631): no countdown and no `P_CYCLES`. -/
def State.untimed (s : State) : State := { s with remaining := 0, params := { s.params with cycles := [] } }

/-- An outcome with the cycle counts left out. -/
def untimedResult (x : Result) : Result :=
  match x with
  | .next t => .next t.untimed
  | .fault f => .fault f
  | .refused r => .refused r

/-! ### Base cycles by mnemonic and mode

The counts of 30_encoding.md R86 and R87, laid out as those tables are: by mnemonic and mode, where the table a tick reads
(`Config.defaultCycles`) goes by the opcode byte. -/

/-- Base cycles of an M6502 instruction that reads its operand (R86, the page-cross penalty not in it). -/
def readCycles65 : Src65 → Nat
  | .imm _ => 2
  | .mem (.zpg _) => 3
  | .mem (.zpx _) | .mem (.zpy _) => 4
  | .mem (.abs _) | .mem (.abx _) | .mem (.aby _) => 4
  | .mem (.inx _) => 6
  | .mem (.iny _) => 5

/-- Base cycles of an M6502 store (R86). -/
def storeCycles65 : Ea65 → Nat
  | .zpg _ => 3
  | .zpx _ | .zpy _ | .abs _ => 4
  | .abx _ | .aby _ => 5
  | .inx _ | .iny _ => 6

/-- Base cycles of INC and DEC (R86). -/
def incCycles65 : Mode65.Inc → Nat
  | .zpg _ => 5
  | .zpx _ | .abs _ => 6
  | .abx _ => 7

/-- Base cycles of ASL, LSR, ROL and ROR (R86). -/
def shiftCycles65 : Mode65.Shift → Nat
  | .acc => 2
  | .zpg _ => 5
  | .zpx _ | .abs _ => 6
  | .abx _ => 7

/-- Base cycles of JMP on the M6502 (R86). -/
def jmpCycles65 : Mode65.Jmp → Nat
  | .abs _ => 3
  | .ind _ => 5

/-- Base cycles of an M6800 instruction with an accumulator and a byte operand (R87). -/
def readCycles68 : Src68 → Nat
  | .imm _ => 2
  | .mem (.dir _) => 3
  | .mem (.idx _) => 5
  | .mem (.ext _) => 4

/-- Base cycles of LDS, LDX and CPX (R87). -/
def wordReadCycles68 : Src68W → Nat
  | .imm _ => 3
  | .mem (.dir _) => 4
  | .mem (.idx _) => 6
  | .mem (.ext _) => 5

/-- Base cycles of STAA and STAB (R87). STS and STX take one more. -/
def storeCycles68 : Ea68 → Nat
  | .dir _ => 4
  | .idx _ => 6
  | .ext _ => 5

/-- Base cycles of the memory forms of the single-operand group (R87). -/
def memCycles68 : Mode68.Mem → Nat
  | .idx _ => 7
  | .ext _ => 6

/-- Base cycles of JMP on the M6800 (R87). -/
def jmpCycles68 : Mode68.Mem → Nat
  | .idx _ => 4
  | .ext _ => 3

/-- Base cycles of JSR on the M6800 (R87). -/
def jsrCycles68 : Mode68.Mem → Nat
  | .idx _ => 8
  | .ext _ => 9

/-- Base cycles of every form (R86, R87). -/
def tableCycles : Instr → Nat
  | .m6502Lda m | .m6502Adc m | .m6502Sbc m | .m6502And m | .m6502Ora m | .m6502Eor m | .m6502Cmp m =>
    readCycles65 (srcOfRead m)
  | .m6502Ldx m => readCycles65 (srcOfLdx m)
  | .m6502Ldy m => readCycles65 (srcOfLdy m)
  | .m6502Bit m => readCycles65 (srcOfBit m)
  | .m6502Cpx m | .m6502Cpy m => readCycles65 (srcOfCpx m)
  | .m6502Sta m => storeCycles65 (eaOfStore m)
  | .m6502Stx m => storeCycles65 (eaOfStx m)
  | .m6502Sty m => storeCycles65 (eaOfSty m)
  | .m6502Inc m | .m6502Dec m => incCycles65 m
  | .m6502Asl m | .m6502Lsr m | .m6502Rol m | .m6502Ror m => shiftCycles65 m
  | .m6502Tax | .m6502Tay | .m6502Txa | .m6502Tya | .m6502Tsx | .m6502Txs | .m6502Inx | .m6502Iny | .m6502Dex
  | .m6502Dey | .m6502Clc | .m6502Sec | .m6502Cli | .m6502Sei | .m6502Cld | .m6502Sed | .m6502Clv | .m6502Nop => 2
  | .m6502Bpl _ | .m6502Bmi _ | .m6502Bvc _ | .m6502Bvs _ | .m6502Bcc _ | .m6502Bcs _ | .m6502Bne _ | .m6502Beq _ => 2
  | .m6502Pha | .m6502Php => 3
  | .m6502Pla | .m6502Plp => 4
  | .m6502Jmp m => jmpCycles65 m
  | .m6502Jsr _ => 6
  | .m6502Rts | .m6502Rti => 6
  | .m6502Brk => 7
  | .m6800Ldaa m | .m6800Ldab m | .m6800Adda m | .m6800Addb m | .m6800Adca m | .m6800Adcb m | .m6800Suba m
  | .m6800Subb m | .m6800Sbca m | .m6800Sbcb m | .m6800Cmpa m | .m6800Cmpb m | .m6800Anda m | .m6800Andb m
  | .m6800Bita m | .m6800Bitb m | .m6800Eora m | .m6800Eorb m | .m6800Oraa m | .m6800Orab m =>
    readCycles68 (srcOfRead68 m)
  | .m6800Lds m | .m6800Ldx m | .m6800Cpx m => wordReadCycles68 (srcOfRead16 m)
  | .m6800Staa m | .m6800Stab m => storeCycles68 (eaOfStore68 m)
  | .m6800Sts m | .m6800Stx m => storeCycles68 (eaOfStore68 m) + 1
  | .m6800Neg m | .m6800Com m | .m6800Clr m | .m6800Tst m | .m6800Inc m | .m6800Dec m | .m6800Asl m | .m6800Asr m
  | .m6800Lsr m | .m6800Rol m | .m6800Ror m => memCycles68 m
  | .m6800Tab | .m6800Tba | .m6800Tap | .m6800Tpa | .m6800Aba | .m6800Sba | .m6800Cba | .m6800Daa | .m6800Nop
  | .m6800Clc | .m6800Sec | .m6800Cli | .m6800Sei | .m6800Clv | .m6800Sev => 2
  | .m6800Nega | .m6800Negb | .m6800Coma | .m6800Comb | .m6800Clra | .m6800Clrb | .m6800Tsta | .m6800Tstb
  | .m6800Inca | .m6800Incb | .m6800Deca | .m6800Decb | .m6800Asla | .m6800Aslb | .m6800Asra | .m6800Asrb
  | .m6800Lsra | .m6800Lsrb | .m6800Rola | .m6800Rolb | .m6800Rora | .m6800Rorb => 2
  | .m6800Tsx | .m6800Txs | .m6800Psha | .m6800Pshb | .m6800Pula | .m6800Pulb | .m6800Inx | .m6800Dex | .m6800Ins
  | .m6800Des => 4
  | .m6800Bra _ | .m6800Bhi _ | .m6800Bls _ | .m6800Bcc _ | .m6800Bcs _ | .m6800Bne _ | .m6800Beq _ | .m6800Bvc _
  | .m6800Bvs _ | .m6800Bpl _ | .m6800Bmi _ | .m6800Bge _ | .m6800Blt _ | .m6800Bgt _ | .m6800Ble _ => 4
  | .m6800Bsr _ => 8
  | .m6800Jmp m => jmpCycles68 m
  | .m6800Jsr m => jsrCycles68 m
  | .m6800Rts => 5
  | .m6800Rti => 10
  | .m6800Swi => 12
  | .m6800Wai => 9

/-! ### The invariant -/

/-- What every step keeps: memory stands in its canonical form, the register file of the other profile stands at its reset
values, and an M6502 engine neither waits nor has a HALT pin (10_state.md R41). -/
def State.Inv (s : State) : Prop :=
  memWf s.mem = true ∧
    match s.profile with
    | .m6502 => s.m6800 = Regs68.reset ∧ s.waiting = false ∧ s.haltLine = false
    | .m6800 => s.m6502 = Regs65.reset

end Sys2Proof.Machine
end

