-- ==== Sys2Proof/Certificates/Slice0/Obligations.lean ====
section
/-!
DEFINITION. The statements for the provers, one definition each. `Plain65`, `Plain68`, `Runs65` and `Runs68` of Safety.lean
say in one conclusion that an instruction answers a next state, what that state is, and its frame: the register file is the
one named, PC and the countdown are the ones named, every byte of memory outside the named writes reads as before, and
nothing else differs.
-/

open Sys2Proof Sys2Proof.Machine

/-- O1. When none of the checks before the fetch applies, the bytes at PC decode to a well-formed instruction i and its
opcode byte is not in P_UNIMPLEMENTED, step is exec of i on that state, with nothing added around it: exec itself
moves PC past the bytes of i and sets the countdown. The spec marks as its own (general knowledge, a derivation or a
decision of 92_eei_decisions.md) part of R101, R530. (R101, R530) -/
def Obligations.StepRunsDecodedInstruction : Prop :=
  ∀ (s : State) (i : Instr), s.fetches → WellFormed s.profile i →
    decodeAt s.profile (s.readByte s.pc) (s.readByte (s.pc + 1)) (s.readByte (s.pc + 2)) = some i →
    s.readByte s.pc ∉ s.params.unimplemented →
    step s = exec i s

/-- O2. For some words of each family, written out from the opcode maps and the operand assembly rule, the decoder gives
the instruction they stand for: M6502 operand words low byte first, M6800 ones high byte first. The spec marks as
its own (general knowledge, a derivation or a decision of 92_eei_decisions.md) part of R82, R84, R85. (R82, R84,
R85) -/
def Obligations.DecodeSpecWords : Prop :=
  decodeAt .m6502 0b10111101 0x34 0x12 = some (.m6502Lda (.abx 0x1234)) ∧
  decodeAt .m6502 0b10010110 0xF0 0x00 = some (.m6502Stx (.zpy 0xF0)) ∧
  decodeAt .m6502 0b01110001 0x40 0x00 = some (.m6502Adc (.iny 0x40)) ∧
  decodeAt .m6502 0b11000110 0x10 0x00 = some (.m6502Dec (.zpg 0x10)) ∧
  decodeAt .m6502 0b01101010 0x00 0x00 = some (.m6502Ror .acc) ∧
  decodeAt .m6502 0b11010000 0xFE 0x00 = some (.m6502Bne 0xFE) ∧
  decodeAt .m6502 0b01101100 0xFF 0x30 = some (.m6502Jmp (.ind 0x30FF)) ∧
  decodeAt .m6502 0b01000000 0x00 0x00 = some .m6502Rti ∧
  decodeAt .m6800 0b11001110 0x12 0x34 = some (.m6800Ldx (.imm16 0x1234)) ∧
  decodeAt .m6800 0b10111111 0x30 0x00 = some (.m6800Sts (.ext 0x3000)) ∧
  decodeAt .m6800 0b11101011 0x20 0x00 = some (.m6800Addb (.idx 0x20)) ∧
  decodeAt .m6800 0b00011001 0x00 0x00 = some .m6800Daa ∧
  decodeAt .m6800 0b01111100 0x10 0x02 = some (.m6800Inc (.ext 0x1002)) ∧
  decodeAt .m6800 0b10001101 0xFE 0x00 = some (.m6800Bsr 0xFE) ∧
  decodeAt .m6800 0b00111111 0x00 0x00 = some .m6800Swi

/-- O3. For every instruction, with every operand, followed by any bytes, the decoder of its profile gives back that
instruction and exactly the bytes after it. No bit of an encoding is dropped. The spec marks as its own (general
knowledge, a derivation or a decision of 92_eei_decisions.md) part of R81, R82, R86, R87. (R80, R81, R82, R86, R87) -/
def Obligations.DecodeOfEncode : Prop :=
  ∀ (i : Instr) (rest : List Byte), decode i.profile (encode i ++ rest) = .ok (i, rest)

/-- O4. When the decoder of a profile gives an instruction and the remaining bytes, the instruction is well formed for
the profile and the bytes read are exactly its encoding: every word has at most one meaning. (R80, R90, R94) -/
def Obligations.EncodeOfDecode : Prop :=
  ∀ (p : Profile) (bytes : List Byte) (i : Instr) (rest : List Byte),
    decode p bytes = .ok (i, rest) → WellFormed p i ∧ bytes = encode i ++ rest

/-- O5. A byte is absent from the M6502 table exactly if it is one of the 105 bytes of the list, and from the M6800
table exactly if it is one of the 59; and a tick that reaches the fetch with such a byte at PC ends in the fault
UnknownOpcode with the byte and its address. (R91) -/
def Obligations.UndefinedBytes : Prop :=
  (∀ op : Byte, lookup .m6502 op = none ↔
    op ∈ [0x02, 0x03, 0x04, 0x07, 0x0B, 0x0C, 0x0F, 0x12, 0x13, 0x14, 0x17, 0x1A, 0x1B, 0x1C, 0x1F, 0x22] ++
      [0x23, 0x27, 0x2B, 0x2F, 0x32, 0x33, 0x34, 0x37, 0x3A, 0x3B, 0x3C, 0x3F, 0x42, 0x43, 0x44, 0x47] ++
      [0x4B, 0x4F, 0x52, 0x53, 0x54, 0x57, 0x5A, 0x5B, 0x5C, 0x5F, 0x62, 0x63, 0x64, 0x67, 0x6B, 0x6F] ++
      [0x72, 0x73, 0x74, 0x77, 0x7A, 0x7B, 0x7C, 0x7F, 0x80, 0x82, 0x83, 0x87, 0x89, 0x8B, 0x8F, 0x92] ++
      [0x93, 0x97, 0x9B, 0x9C, 0x9E, 0x9F, 0xA3, 0xA7, 0xAB, 0xAF, 0xB2, 0xB3, 0xB7, 0xBB, 0xBF, 0xC2] ++
      [0xC3, 0xC7, 0xCB, 0xCF, 0xD2, 0xD3, 0xD4, 0xD7, 0xDA, 0xDB, 0xDC, 0xDF, 0xE2, 0xE3, 0xE7, 0xEB] ++
      [0xEF, 0xF2, 0xF3, 0xF4, 0xF7, 0xFA, 0xFB, 0xFC, 0xFF]) ∧
  (∀ op : Byte, lookup .m6800 op = none ↔
    op ∈ [0x00, 0x02, 0x03, 0x04, 0x05, 0x12, 0x13, 0x14, 0x15, 0x18, 0x1A, 0x1C, 0x1D, 0x1E, 0x1F, 0x21] ++
      [0x38, 0x3A, 0x3C, 0x3D, 0x41, 0x42, 0x45, 0x4B, 0x4E, 0x51, 0x52, 0x55, 0x5B, 0x5E, 0x61, 0x62] ++
      [0x65, 0x6B, 0x71, 0x72, 0x75, 0x7B, 0x83, 0x87, 0x8F, 0x93, 0x9D, 0xA3, 0xB3, 0xC3, 0xC7, 0xCC] ++
      [0xCD, 0xCF, 0xD3, 0xDC, 0xDD, 0xE3, 0xEC, 0xED, 0xF3, 0xFC, 0xFD]) ∧
  ∀ s : State, s.fetches → lookup s.profile (s.readByte s.pc) = none →
    step s = .fault (.unknownOpcode (s.readByte s.pc) s.pc)

/-- O6. In every state that meets the invariant (memory in canonical form, the register file of the other profile at its
reset values, an M6502 engine neither waiting nor halted), a step that answers a next state answers one that meets
it. The canonical form of memory and the unused register file are the model's own (log entries 2 and 5). The spec
marks as its own (general knowledge, a derivation or a decision of 92_eei_decisions.md) part of R41. (R41, R61, R10) -/
def Obligations.StepKeepsInv : Prop :=
  ∀ s t : State, s.Inv → step s = .next t → t.Inv

/-- O7. State.reset, the reset state of either profile and every engine constructed on a memory in canonical form meet
the invariant, and reset() keeps it. That memory is canonical, that the unused register file stands at its reset
values and that State.reset is the M6502 engine are the model's own choices (log entries 5, 2 and 1), no rule of the
spec. The spec marks as its own (general knowledge, a derivation or a decision of 92_eei_decisions.md) part of R45,
R600. (R45, R600) -/
def Obligations.ResetInv : Prop :=
  State.reset.Inv ∧ (∀ p : Profile, (State.resetOf p).Inv) ∧
  (∀ (p : Profile) (c : Config.Params) (m : Memory), memWf m = true → (State.construct p c m).Inv) ∧
  ∀ s : State, s.Inv → s.restart.Inv

/-- O8. Every tick either answers a next state, or ends in UnknownOpcode (it reaches the fetch and the byte at PC has no
entry), or ends in UnimplementedInstruction (it reaches the fetch and the byte at PC has an entry and is in
P_UNIMPLEMENTED), with the byte and its address. A tick that reaches the fetch of a byte that has an entry and is in
P_UNIMPLEMENTED does end in UnimplementedInstruction. With P_UNIMPLEMENTED empty the second fault does not occur.
The spec marks as its own (general knowledge, a derivation or a decision of 92_eei_decisions.md) part of R93, R502,
R505. (R100, R501, R502, R504, R505, R93) -/
def Obligations.StepOutcomes : Prop :=
  (∀ s : State,
    (∃ t, step s = .next t) ∨
    (s.fetches ∧ lookup s.profile (s.readByte s.pc) = none ∧
      step s = .fault (.unknownOpcode (s.readByte s.pc) s.pc)) ∨
    (s.fetches ∧ lookup s.profile (s.readByte s.pc) ≠ none ∧ s.readByte s.pc ∈ s.params.unimplemented ∧
      step s = .fault (.unimplementedInstruction (s.readByte s.pc) s.pc))) ∧
  ∀ s : State, s.fetches → lookup s.profile (s.readByte s.pc) ≠ none → s.readByte s.pc ∈ s.params.unimplemented →
    step s = .fault (.unimplementedInstruction (s.readByte s.pc) s.pc)

/-- O9. Where the countdown is above 0, a tick lowers it by one and changes nothing else: no pin is read, no register
and no byte of memory changes. (R102) -/
def Obligations.CountdownTick : Prop :=
  ∀ s : State, 0 < s.remaining → step s = .next { s with remaining := s.remaining - 1 }

/-- O10. From any state, k ticks with k at most the countdown leave the countdown k lower and everything else as it was;
the engine is executing until the countdown is 0. So an instruction whose first tick sets the countdown to T - 1
occupies T ticks. The spec marks as its own (general knowledge, a derivation or a decision of 92_eei_decisions.md)
part of R105. (R105, R40) -/
def Obligations.TicksOfAnInstruction : Prop :=
  ∀ (s : State) (k : Nat), k ≤ s.remaining →
    ∃ t, Host.Core.run Sys2Proof.core k s = .next t ∧ t = { s with remaining := s.remaining - k } ∧
      (t.isExecuting = true ↔ k < s.remaining)

/-- O11. Whenever an instruction answers a next state, its countdown is P_CYCLES of its opcode plus extra cycles less
one; the extra cycles are 0 for every M6800 instruction and at most 2 for an M6502 one; with the default table at
least one tick remains. With the default P_CYCLES the base cycles of every form of both profiles are the count that
the opcode tables give its mnemonic and mode (`tableCycles`). The spec marks as its own (general knowledge, a
derivation or a decision of 92_eei_decisions.md) part of R86, R87, R104, R147. (R104, R147, R86, R87) -/
def Obligations.CycleTotals : Prop :=
  (∀ (i : Instr) (s t : State), exec i s = .next t →
    ∃ extra, t.remaining = Config.baseCycles s.params s.profile i.opcode + extra - 1 ∧ extra ≤ 2 ∧
      (s.profile = .m6800 → extra = 0) ∧ (s.params.cycles = [] → 1 ≤ t.remaining)) ∧
  ∀ (i : Instr) (s : State), s.profile = i.profile → s.params.cycles = [] → s.cyclesOf i = tableCycles i

/-- O12. On an Idle M6502 tick with the pins read, a pending NMI is serviced through 0xFFFA and its latch cleared;
without one, an IRQ held while I = 0 is serviced through 0xFFFE. Service stores PC (in the byte order of
P_STACK_ORDER_6502) and the status byte with B = 0 and bit 5 = 1, takes SP down by 3, sets I, loads PC from the
vector low byte first and counts 7 ticks; no other register, flag, latch or byte changes. With neither, no interrupt
is selected. The spec marks as its own (general knowledge, a derivation or a decision of 92_eei_decisions.md) part
of R510, R512. (R510, R512) -/
def Obligations.InterruptService6502 : Prop :=
  ∀ s : State, s.profile = .m6502 → s.remaining = 0 → s.params.interrupts = .serviced →
    let entered (k : Interrupt) (vector : Word) := ∃ t, step s = .next t ∧
      Wrote s t (frameWrites65 s.params.stackOrder s.m6502.sp s.pc ((getP s.m6502 &&& 0xEF#8) ||| 0x20#8)) ∧
      t = { s with
            nmiPending := if k = .nmi then false else s.nmiPending
            m6502 := { s.m6502 with sp := s.m6502.sp - 3, i := true }
            pc := w16 (s.readByte (vector + 1)) (s.readByte vector)
            mem := t.mem
            remaining := 6 }
    (s.nmiPending = true → entered .nmi 0xFFFA) ∧
    (s.nmiPending = false → s.irqLine = true → s.m6502.i = false → entered .irq 0xFFFE) ∧
    (interruptToTake s = none ↔ s.nmiPending = false ∧ ¬(s.irqLine = true ∧ s.m6502.i = false))

/-- O13. On an Idle M6800 tick with the pins read, no HALT and no wait, a pending NMI is serviced through 0xFFFC and its
latch cleared; without one, an IRQ held while I = 0 is serviced through 0xFFF8. Service stores the seven-byte frame
with the old I, takes SP down by 7, sets I, loads PC from the vector high byte first (after the stores, which may
overlap it) and counts 12 ticks; no other register, flag, latch or byte changes. The spec marks as its own (general
knowledge, a derivation or a decision of 92_eei_decisions.md) part of R520, R522. (R520, R522) -/
def Obligations.InterruptService6800 : Prop :=
  ∀ s : State, s.profile = .m6800 → s.remaining = 0 → s.params.interrupts = .serviced → s.haltLine = false →
    s.waiting = false →
    let writes := frameWrites68 s.m6800 s.pc
    let entered (k : Interrupt) (vector : Word) := ∃ t, step s = .next t ∧ Wrote s t writes ∧
      t = { s with
            nmiPending := if k = .nmi then false else s.nmiPending
            m6800 := { s.m6800 with sp := s.m6800.sp - 7, i := true }
            pc := w16 (bytesAfter s writes vector) (bytesAfter s writes (vector + 1))
            mem := t.mem
            remaining := 11 }
    (s.nmiPending = true → entered .nmi 0xFFFC) ∧
    (s.nmiPending = false → s.irqLine = true → s.m6800.i = false → entered .irq 0xFFF8) ∧
    (interruptToTake s = none ↔ s.nmiPending = false ∧ ¬(s.irqLine = true ∧ s.m6800.i = false))

/-- O14. On an Idle M6800 tick with the pins read, no HALT and a WAI waiting: a pending NMI, or without one an IRQ held
while I = 0, ends the wait, sets I, loads PC from 0xFFFC or 0xFFF8 high byte first, clears the latch of an NMI and
counts P_WAI_WAKE_CYCLES ticks, with nothing stored; otherwise nothing changes and BA is true. The spec marks as its
own (general knowledge, a derivation or a decision of 92_eei_decisions.md) part of R523. (R523) -/
def Obligations.WaitTick : Prop :=
  ∀ s : State, s.profile = .m6800 → s.remaining = 0 → s.params.interrupts = .serviced → s.haltLine = false →
    s.waiting = true →
    let woken (k : Interrupt) (vector : Word) := step s = .next { s with
      nmiPending := if k = .nmi then false else s.nmiPending
      waiting := false
      m6800 := { s.m6800 with i := true }
      pc := w16 (s.readByte vector) (s.readByte (vector + 1))
      remaining := s.params.waiWakeCycles - 1 }
    (s.nmiPending = true → woken .nmi 0xFFFC) ∧
    (s.nmiPending = false → s.irqLine = true → s.m6800.i = false → woken .irq 0xFFF8) ∧
    (s.nmiPending = false → (s.irqLine = true → s.m6800.i = true) → step s = .next s ∧ s.ba = true)

/-- O15. With the pins read, an Idle M6800 tick while HALT is held changes nothing, whatever else is pending or waiting,
and BA is true; while an instruction counts down, HALT is not read and the countdown goes on. The spec marks as its
own (general knowledge, a derivation or a decision of 92_eei_decisions.md) part of R41, R525. (R525, R41) -/
def Obligations.HaltTick : Prop :=
  ∀ s : State, s.profile = .m6800 → s.haltLine = true →
    (s.params.interrupts = .serviced → s.remaining = 0 → step s = .next s ∧ s.ba = true) ∧
    (0 < s.remaining → step s = .next { s with remaining := s.remaining - 1 })

/-- O16. With P_INTERRUPTS = ignored, an Idle M6800 tick with a WAI waiting changes nothing; otherwise a tick does to a
state what it does to the same state with every pin false and no NMI latched, the pins and the latch standing as
they were. The spec marks as its own (general knowledge, a derivation or a decision of 92_eei_decisions.md) part of
R101, R524. (R524, R101) -/
def Obligations.IgnoredPins : Prop :=
  ∀ s : State, s.params.interrupts = .ignored →
    (s.profile = .m6800 → s.waiting = true → s.remaining = 0 → step s = .next s) ∧
    ∀ irq nmi pending halt : Bool,
      let pins (x : State) := { x with irqLine := irq, nmiLine := nmi, nmiPending := pending, haltLine := halt }
      step (pins s) =
        match step s with
        | .next t => .next (pins t)
        | .fault f => .fault f
        | .refused r => .refused r

/-- O17. reset() on any state gives the register file of R45 (M6502: A = X = Y = 0, SP = 0xFD, P = 0x24; M6800: A = B =
0, IX = SP = 0, CC = 0xC0), PC 0x0000 or the word at the reset vector of the profile, an Idle engine, no NMI latched
and no wait, and leaves the pins, the parameters and every byte of memory; construction gives the same with every
pin false; and State.reset is the M6502 one with the default parameters (the model's choice, log entry 1). That
State.reset is the M6502 engine on a bus with nothing listed is the model's choice (log entries 1 and 5), and the
values of R45 that the source does not list are the spec's decision D18. The spec marks as its own (general
knowledge, a derivation or a decision of 92_eei_decisions.md) part of R45, R600. (R45, R600) -/
def Obligations.ResetValues : Prop :=
  (∀ s : State,
    let t := s.restart
    (s.profile = .m6502 → t.m6502.a = 0 ∧ t.m6502.x = 0 ∧ t.m6502.y = 0 ∧ t.m6502.sp = 0xFD ∧ t.m6502.i = true ∧
      t.m6502.c = false ∧ t.m6502.z = false ∧ t.m6502.d = false ∧ t.m6502.b = false ∧ t.m6502.v = false ∧
      t.m6502.n = false ∧ getP t.m6502 = 0x24 ∧
      t.pc = if s.params.resetPc = .zero then 0x0000 else w16 (s.readByte 0xFFFD) (s.readByte 0xFFFC)) ∧
    (s.profile = .m6800 → t.m6800.a = 0 ∧ t.m6800.b = 0 ∧ t.m6800.ix = 0 ∧ t.m6800.sp = 0 ∧ t.m6800.h = false ∧
      t.m6800.i = false ∧ t.m6800.n = false ∧ t.m6800.z = false ∧ t.m6800.v = false ∧ t.m6800.c = false ∧
      getCC t.m6800 = 0xC0 ∧
      t.pc = if s.params.resetPc = .zero then 0x0000 else w16 (s.readByte 0xFFFE) (s.readByte 0xFFFF)) ∧
    t.remaining = 0 ∧ t.nmiPending = false ∧ t.waiting = false ∧
    t.irqLine = s.irqLine ∧ t.nmiLine = s.nmiLine ∧ t.haltLine = s.haltLine ∧ t.profile = s.profile ∧
    t.params = s.params ∧ ∀ a : Word, t.readByte a = s.readByte a) ∧
  (∀ (p : Profile) (c : Config.Params) (m : Memory),
    let t := State.construct p c m
    t = t.restart ∧ t.profile = p ∧ t.params = c ∧ t.mem = m ∧ t.irqLine = false ∧ t.nmiLine = false ∧
      t.haltLine = false) ∧
  State.reset = State.construct .m6502 Config.defaults []

/-- O18. Setting the NMI pin from false to true sets the latch; setting it to true while it is true, or to false, leaves
the latch as it was and only sets the pin; a second edge while the latch is set leaves it set; NMI service of either
profile, a wake by an NMI and reset() clear it. The spec marks as its own (general knowledge, a derivation or a
decision of 92_eei_decisions.md) part of R511. (R511) -/
def Obligations.NmiLatch : Prop :=
  (∀ s : State, s.nmiLine = false → s.setNmiLine true = { s with nmiLine := true, nmiPending := true }) ∧
  (∀ s : State, s.nmiLine = true → s.setNmiLine true = s) ∧
  (∀ s : State, s.setNmiLine false = { s with nmiLine := false }) ∧
  ∀ s : State, (service .nmi s).nmiPending = false ∧ (wake68 .nmi s).nmiPending = false ∧
    s.restart.nmiPending = false ∧ (service .irq s).nmiPending = s.nmiPending ∧
    (wake68 .irq s).nmiPending = s.nmiPending

/-- O19. Whenever a tick answers a next state, the profile, the parameters, the IRQ, NMI and HALT pins are as they were,
and the NMI latch is either as it was or cleared by a tick that had it set with nothing counting down and the pins
read. The spec marks as its own (general knowledge, a derivation or a decision of 92_eei_decisions.md) part of R41,
R511. (R10, R41, R42, R511) -/
def Obligations.StepLeavesHostInputs : Prop :=
  ∀ s t : State, step s = .next t →
    t.profile = s.profile ∧ t.params = s.params ∧ t.irqLine = s.irqLine ∧ t.nmiLine = s.nmiLine ∧
    t.haltLine = s.haltLine ∧
    (t.nmiPending = s.nmiPending ∨
      t.nmiPending = false ∧ s.nmiPending = true ∧ s.remaining = 0 ∧ s.params.interrupts = .serviced)

/-- O20. push8 stores the byte at 0x0100 + SP (M6502) or SP (M6800) and takes SP down by one, with wrap; pull8 takes SP
up by one, with wrap, and returns the byte there. Nothing else changes, and nothing faults. (R110, R111) -/
def Obligations.StackPrimitives : Prop :=
  (∀ (v : Byte) (s : State),
    (∀ a : Word, (push65 v s).readByte a = if a.toNat = 0x0100 + s.m6502.sp.toNat then v else s.readByte a) ∧
    push65 v s = { s with
      mem := (push65 v s).mem
      m6502 := { s.m6502 with sp := BitVec.ofNat 8 (s.m6502.sp.toNat + 255) } } ∧
    pull65 s = { s with m6502 := { s.m6502 with sp := BitVec.ofNat 8 (s.m6502.sp.toNat + 1) } } ∧
    pulled65 s = s.readByte (BitVec.ofNat 16 (0x0100 + (s.m6502.sp.toNat + 1) % 256))) ∧
  ∀ (v : Byte) (s : State),
    (∀ a : Word, (push68 v s).readByte a = if a = s.m6800.sp then v else s.readByte a) ∧
    push68 v s = { s with
      mem := (push68 v s).mem
      m6800 := { s.m6800 with sp := BitVec.ofNat 16 (s.m6800.sp.toNat + 65535) } } ∧
    pull68 s = { s with m6800 := { s.m6800 with sp := BitVec.ofNat 16 (s.m6800.sp.toNat + 1) } } ∧
    pulled68 s = s.readByte (BitVec.ofNat 16 (s.m6800.sp.toNat + 1))

/-- O21. A 16-bit push of the M6502 stores the two bytes in the order of P_STACK_ORDER_6502 (hi_first: high byte at SP,
low byte below it) and takes SP down by 2; a pull takes the word back in the same order and SP up by 2. Those of the
M6800 store the low byte at SP and the high byte below it. Nothing else changes. The spec marks as its own (general
knowledge, a derivation or a decision of 92_eei_decisions.md) part of R112, R113. (R112, R113) -/
def Obligations.StackWords : Prop :=
  (∀ (w : Word) (s : State),
    Wrote s (push16At65 w s)
      (match s.params.stackOrder with
      | .hiFirst => [(stackAddr65 (s.m6502.sp - 1), lo w), (stackAddr65 s.m6502.sp, hi w)]
      | .loFirst => [(stackAddr65 (s.m6502.sp - 1), hi w), (stackAddr65 s.m6502.sp, lo w)]) ∧
    push16At65 w s = { s with mem := (push16At65 w s).mem, m6502 := { s.m6502 with sp := s.m6502.sp - 2 } } ∧
    pulled16At65 s =
      (match s.params.stackOrder with
      | .hiFirst => w16 (s.readByte (stackAddr65 (s.m6502.sp + 2))) (s.readByte (stackAddr65 (s.m6502.sp + 1)))
      | .loFirst => w16 (s.readByte (stackAddr65 (s.m6502.sp + 1))) (s.readByte (stackAddr65 (s.m6502.sp + 2)))) ∧
    pull16At65 s = { s with m6502 := { s.m6502 with sp := s.m6502.sp + 2 } }) ∧
  ∀ (w : Word) (s : State),
    Wrote s (push16At68 w s) [(s.m6800.sp - 1, hi w), (s.m6800.sp, lo w)] ∧
    push16At68 w s = { s with mem := (push16At68 w s).mem, m6800 := { s.m6800 with sp := s.m6800.sp - 2 } } ∧
    pulled16At68 s = w16 (s.readByte (s.m6800.sp + 1)) (s.readByte (s.m6800.sp + 2)) ∧
    pull16At68 s = { s with m6800 := { s.m6800 with sp := s.m6800.sp + 2 } }

/-- O22. For either profile and either stack order, pulling a word just pushed returns it, restores SP to its first
value and leaves the two written bytes in memory; nothing else differs from the state before the push. The spec
marks as its own (general knowledge, a derivation or a decision of 92_eei_decisions.md) part of R114. (R114) -/
def Obligations.StackRoundTrip : Prop :=
  (∀ (w : Word) (s : State),
    let t := push16At65 w s
    pulled16At65 t = w ∧ pull16At65 t = { s with mem := t.mem } ∧
      Wrote s (pull16At65 t) (pushedWord65 s.params.stackOrder s.m6502.sp w)) ∧
  ∀ (w : Word) (s : State),
    let t := push16At68 w s
    pulled16At68 t = w ∧ pull16At68 t = { s with mem := t.mem } ∧
      Wrote s (pull16At68 t) [(s.m6800.sp - 1, hi w), (s.m6800.sp, lo w)]

/-- O23. On the M6800, RTI run on the state that SWI or WAI leaves gives back every register and flag, I included, with
PC at the next instruction. On the M6502, RTI run on the state that BRK leaves gives back A, X, Y, SP and every flag
but B, which becomes 1, with PC two past the opcode. Whatever the stack pointer, the stack order and the vector are.
The spec marks as its own (general knowledge, a derivation or a decision of 92_eei_decisions.md) part of R262, R263,
R420 to R422, R532. (R262, R263, R420, R421, R422, R532) -/
def Obligations.TrapThenReturn : Prop :=
  (∀ (i : Instr) (s t : State), i = .m6800Swi ∨ i = .m6800Wai → exec i s = .next t →
    ∃ u, exec .m6800Rti t = .next u ∧ u.m6800 = s.m6800 ∧ u.pc = s.pc + 1 ∧ u.mem = t.mem) ∧
  ∀ s t : State, exec .m6502Brk s = .next t →
    ∃ u, exec .m6502Rti t = .next u ∧ u.m6502 = { s.m6502 with b := true } ∧ u.pc = s.pc + 2 ∧ u.mem = t.mem

/-- O24. getP has N, V, B, D, I, Z and C in bits 7, 6, 4, 3, 2, 1 and 0 and reads bit 5 as 1; setP writes each flag from
its bit, ignores bit 5, and leaves A, X, Y and SP; so getP after setP reads back the byte with bit 5 set. (R24) -/
def Obligations.StatusByteP : Prop :=
  (∀ r : Regs65, (getP r).getLsbD 7 = r.n ∧ (getP r).getLsbD 6 = r.v ∧ (getP r).getLsbD 5 = true ∧
    (getP r).getLsbD 4 = r.b ∧ (getP r).getLsbD 3 = r.d ∧ (getP r).getLsbD 2 = r.i ∧ (getP r).getLsbD 1 = r.z ∧
    (getP r).getLsbD 0 = r.c) ∧
  (∀ (r : Regs65) (p : Byte), setP r p = { r with
    n := p.getLsbD 7, v := p.getLsbD 6, b := p.getLsbD 4, d := p.getLsbD 3, i := p.getLsbD 2, z := p.getLsbD 1
    c := p.getLsbD 0 }) ∧
  ∀ (r : Regs65) (p : Byte), getP (setP r p) = p ||| 0x20#8 ∧ setP r (getP r) = r

/-- O25. getCC has H, I, N, Z, V and C in bits 5 to 0 and reads bits 7 and 6 as 1; setCC writes each flag from its bit,
ignores bits 7 and 6, and leaves A, B, IX and SP; so getCC after setCC reads back the byte with bits 7 and 6 set.
The spec marks as its own (general knowledge, a derivation or a decision of 92_eei_decisions.md) part of R35. (R35) -/
def Obligations.ConditionCodeByte : Prop :=
  (∀ r : Regs68, (getCC r).getLsbD 7 = true ∧ (getCC r).getLsbD 6 = true ∧ (getCC r).getLsbD 5 = r.h ∧
    (getCC r).getLsbD 4 = r.i ∧ (getCC r).getLsbD 3 = r.n ∧ (getCC r).getLsbD 2 = r.z ∧ (getCC r).getLsbD 1 = r.v ∧
    (getCC r).getLsbD 0 = r.c) ∧
  (∀ (r : Regs68) (p : Byte), setCC r p = { r with
    h := p.getLsbD 5, i := p.getLsbD 4, n := p.getLsbD 3, z := p.getLsbD 2, v := p.getLsbD 1
    c := p.getLsbD 0 }) ∧
  ∀ (r : Regs68) (p : Byte), getCC (setCC r p) = p ||| 0xC0#8 ∧ setCC r (getCC r) = r

/-- O26. Zero-page indexing stays in page 0, absolute indexing wraps at 65536, both bytes of a zero-page pointer come
from page 0, the high byte of an indirect jump comes from the page of the pointer, and the penalty of a read is 1
exactly where the low byte of the base plus the index exceeds 0xFF in modes ABX, ABY and INY, and 0 in every other
mode. An immediate operand is the byte itself, with no penalty; a memory operand is the byte at the effective
address, with the penalty of its mode. The spec marks as its own (general knowledge, a derivation or a decision of
92_eei_decisions.md) part of R136, R137, R140, R143. (R133, R134, R135, R136, R137, R138, R139, R140, R141, R143) -/
def Obligations.Addresses6502 : Prop :=
  ∀ s : State,
    let x := s.m6502.x.toNat
    let y := s.m6502.y.toNat
    let at8 (n : Nat) : Nat := (s.readByte (BitVec.ofNat 16 n)).toNat
    let pointer (p : Nat) : Nat := at8 ((p + 1) % 256) * 256 + at8 (p % 256)
    (∀ a : Byte, ((Ea65.zpg a).addr s).toNat = a.toNat) ∧
    (∀ b : Byte, ((Ea65.zpx b).addr s).toNat = (b.toNat + x) % 256) ∧
    (∀ b : Byte, ((Ea65.zpy b).addr s).toNat = (b.toNat + y) % 256) ∧
    (∀ w : Word, (Ea65.abs w).addr s = w) ∧
    (∀ w : Word, ((Ea65.abx w).addr s).toNat = (w.toNat + x) % 65536) ∧
    (∀ w : Word, ((Ea65.aby w).addr s).toNat = (w.toNat + y) % 65536) ∧
    (∀ b : Byte, ((Ea65.inx b).addr s).toNat = pointer (b.toNat + x)) ∧
    (∀ p : Byte, ((Ea65.iny p).addr s).toNat = (pointer p.toNat + y) % 65536) ∧
    (∀ w : Word, (indirectTarget s w).toNat = at8 (w.toNat / 256 * 256 + (w.toNat + 1) % 256) * 256 + at8 w.toNat) ∧
    (∀ w : Word, (Ea65.abx w).penalty s = if 255 < w.toNat % 256 + x then 1 else 0) ∧
    (∀ w : Word, (Ea65.aby w).penalty s = if 255 < w.toNat % 256 + y then 1 else 0) ∧
    (∀ p : Byte, (Ea65.iny p).penalty s = if 255 < pointer p.toNat % 256 + y then 1 else 0) ∧
    (∀ b : Byte, (Ea65.zpg b).penalty s = 0 ∧ (Ea65.zpx b).penalty s = 0 ∧ (Ea65.zpy b).penalty s = 0 ∧
      (Ea65.inx b).penalty s = 0) ∧
    (∀ w : Word, (Ea65.abs w).penalty s = 0) ∧
    (∀ v : Byte, (Src65.imm v).value s = v ∧ (Src65.imm v).penalty s = 0) ∧
    ∀ ea : Ea65, (Src65.mem ea).value s = s.readByte (ea.addr s) ∧ (Src65.mem ea).penalty s = ea.penalty s

/-- O27. Direct mode addresses page 0; indexed mode adds the unsigned offset to IX and wraps at 65536; a word operand
has its high byte at the effective address and its low byte at the next one, wrapping at 65536 and not within page
0. The spec marks as its own (general knowledge, a derivation or a decision of 92_eei_decisions.md) part of R143,
R146, R148, R149. (R143, R146, R148, R149, R150) -/
def Obligations.Addresses6800 : Prop :=
  ∀ s : State,
    (∀ a : Byte, ((Ea68.dir a).addr s).toNat = a.toNat) ∧
    (∀ off : Byte, ((Ea68.idx off).addr s).toNat = (s.m6800.ix.toNat + off.toNat) % 65536) ∧
    (∀ w : Word, (Ea68.ext w).addr s = w) ∧
    (∀ v : Byte, (Src68.imm v).value s = v) ∧ (∀ ea : Ea68, (Src68.mem ea).value s = s.readByte (ea.addr s)) ∧
    (∀ v : Word, (Src68W.imm v).value s = v) ∧
    ∀ ea : Ea68, ((Src68W.mem ea).value s).toNat =
      (s.readByte (ea.addr s)).toNat * 256 + (s.readByte (BitVec.ofNat 16 ((ea.addr s).toNat + 1))).toNat

/-- O28. Writing a byte makes the next read of its address give that byte and leaves the read of every other address,
and every other part of the state, as they were; a read of any of the 65536 addresses gives a byte. (R61, R60) -/
def Obligations.MemoryReadAfterWrite : Prop :=
  ∀ (s : State) (a : Word) (v : Byte),
    (s.writeByte a v).readByte a = v ∧ (∀ b : Word, b ≠ a → (s.writeByte a v).readByte b = s.readByte b) ∧
    s.writeByte a v = { s with mem := (s.writeByte a v).mem }

/-- O29. Over all instructions: on the M6502 only SEI, CLI, PLP, RTI and BRK can change I, only SED, CLD, PLP and RTI
can change D, only PLP and RTI can change the register-file B, and only ADC, SBC, BIT, CLV, PLP and RTI can change
V; on the M6800 only SEI, CLI, TAP, RTI and SWI can change I, and only ADDA, ADDB, ADCA, ADCB, ABA, TAP and RTI can
change H. The spec marks as its own (general knowledge, a derivation or a decision of 92_eei_decisions.md) part of
R25. (R23, R25, R34) -/
def Obligations.FlagWriters : Prop :=
  ∀ (i : Instr) (s t : State), exec i s = .next t →
    (t.m6502.i ≠ s.m6502.i → i ∈ [Instr.m6502Sei, .m6502Cli, .m6502Plp, .m6502Rti, .m6502Brk]) ∧
    (t.m6502.d ≠ s.m6502.d → i ∈ [Instr.m6502Sed, .m6502Cld, .m6502Plp, .m6502Rti]) ∧
    (t.m6502.b ≠ s.m6502.b → i ∈ [Instr.m6502Plp, .m6502Rti]) ∧
    (t.m6502.v ≠ s.m6502.v → (∃ m, i = .m6502Adc m ∨ i = .m6502Sbc m) ∨ (∃ m, i = .m6502Bit m) ∨
      i ∈ [Instr.m6502Clv, .m6502Plp, .m6502Rti]) ∧
    (t.m6800.i ≠ s.m6800.i → i ∈ [Instr.m6800Sei, .m6800Cli, .m6800Tap, .m6800Rti, .m6800Swi]) ∧
    (t.m6800.h ≠ s.m6800.h →
      (∃ m, i = .m6800Adda m ∨ i = .m6800Addb m ∨ i = .m6800Adca m ∨ i = .m6800Adcb m) ∨
      i ∈ [Instr.m6800Aba, .m6800Tap, .m6800Rti])

/-- O30. Two states that differ only in the countdown and in P_CYCLES give, under the same instruction, outcomes that
differ only in those; and two such states that both reach the fetch step to such outcomes. The spec marks as its own
(general knowledge, a derivation or a decision of 92_eei_decisions.md) part of R631. (R631) -/
def Obligations.IndependentOfCycleCounts : Prop :=
  (∀ (i : Instr) (s s2 : State), s.untimed = s2.untimed → untimedResult (exec i s) = untimedResult (exec i s2)) ∧
  ∀ s s2 : State, s.untimed = s2.untimed → s.fetches → s2.fetches →
    untimedResult (step s) = untimedResult (step s2)

/-- O31. With D = 1 and P_DECIMAL_6502 = nmos, on an accumulator and an operand of two decimal digits each, ADC leaves
in A the two digits of the decimal sum with carry in and C is its carry out; SBC leaves the two digits of the
decimal difference with borrow in, and C is 0 exactly where it borrows. The spec marks as its own (general
knowledge, a derivation or a decision of 92_eei_decisions.md) part of R161, R163. (R161, R163, R220, R221) -/
def Obligations.DecimalArithmetic6502 : Prop :=
  ∀ (s : State) (m : Mode65.Read), s.profile = .m6502 → s.m6502.d = true → s.params.decimal6502 = .nmos →
    isBcd s.m6502.a → isBcd ((srcOfRead m).value s) →
    let a := bcdValue s.m6502.a
    let v := bcdValue ((srcOfRead m).value s)
    let c := bit s.m6502.c
    (∃ t, exec (.m6502Adc m) s = .next t ∧ isBcd t.m6502.a ∧ bcdValue t.m6502.a = (a + v + c) % 100 ∧
      t.m6502.c = decide (100 ≤ a + v + c)) ∧
    ∃ t, exec (.m6502Sbc m) s = .next t ∧ isBcd t.m6502.a ∧ bcdValue t.m6502.a = (a + 99 + c - v) % 100 ∧
      t.m6502.c = decide (v + 1 ≤ a + c)

/-- O32. On the M6800, with an accumulator A and an operand of two decimal digits each, ADDA, ADCA or ABA followed by
DAA leaves in A the two digits of the decimal sum and in C its carry out, whatever value V takes. V after DAA is the
free value `Config.freeDaaV` (log entry 4); nothing here rests on it. The spec marks as its own (general knowledge,
a derivation or a decision of 92_eei_decisions.md) part of R174, R352. (R174, R330, R332, R334, R352) -/
def Obligations.AddThenDaa6800 : Prop :=
  ∀ (s : State) (m : Mode68.Read), s.profile = .m6800 → isBcd s.m6800.a →
    let decimalAfter (i : Instr) (sum : Nat) := ∃ t u, exec i s = .next t ∧ exec .m6800Daa t = .next u ∧
      isBcd u.m6800.a ∧ bcdValue u.m6800.a = sum % 100 ∧ u.m6800.c = decide (100 ≤ sum)
    let v := (srcOfRead68 m).value s
    (isBcd v → decimalAfter (.m6800Adda m) (bcdValue s.m6800.a + bcdValue v)) ∧
    (isBcd v → decimalAfter (.m6800Adca m) (bcdValue s.m6800.a + bcdValue v + bit s.m6800.c)) ∧
    (isBcd s.m6800.b → decimalAfter .m6800Aba (bcdValue s.m6800.a + bcdValue s.m6800.b))

/-- O33. On every M6502 state and in every mode, LDA, LDX and LDY answer a next state: the operand is in the register, Z
and N are those of the operand, and the ticks are the base cycles and the page-cross penalty of the operand. Every
other register and flag, every special state and every byte of memory is as before, and the next instruction
follows. The spec marks as its own (general knowledge, a derivation or a decision of 92_eei_decisions.md) part of
R200 to R202. (R200, R201, R202) -/
def Obligations.Loads6502 : Prop :=
  ∀ s : State, s.profile = .m6502 →
    let r := s.m6502
    (∀ m, let v := (srcOfRead m).value s
      Plain65 (.m6502Lda m) s { r with a := v, z := zeroOf v.toNat, n := negativeOf v.toNat } []
        ((srcOfRead m).penalty s)) ∧
    (∀ m, let v := (srcOfLdx m).value s
      Plain65 (.m6502Ldx m) s { r with x := v, z := zeroOf v.toNat, n := negativeOf v.toNat } []
        ((srcOfLdx m).penalty s)) ∧
    (∀ m, let v := (srcOfLdy m).value s
      Plain65 (.m6502Ldy m) s { r with y := v, z := zeroOf v.toNat, n := negativeOf v.toNat } []
        ((srcOfLdy m).penalty s))

/-- O34. On every M6502 state and in every mode, STA, STX and STY answer a next state: the register is stored at the
effective address, and nowhere else; no register and no flag changes; the ticks are the base cycles. The spec marks
as its own (general knowledge, a derivation or a decision of 92_eei_decisions.md) part of R203 to R205. (R203, R204,
R205) -/
def Obligations.Stores6502 : Prop :=
  ∀ s : State, s.profile = .m6502 →
    let r := s.m6502
    (∀ m, Plain65 (.m6502Sta m) s r [((eaOfStore m).addr s, r.a)] 0) ∧
    (∀ m, Plain65 (.m6502Stx m) s r [((eaOfStx m).addr s, r.x)] 0) ∧
    ∀ m, Plain65 (.m6502Sty m) s r [((eaOfSty m).addr s, r.y)] 0

/-- O35. On every M6502 state the six transfers answer a next state: the destination holds the source, Z and N are those
of the value copied, but TXS writes no flag. Every other register and flag, every special state and every byte of
memory is as before, and the next instruction follows. The spec marks as its own (general knowledge, a derivation or
a decision of 92_eei_decisions.md) part of R177. (R177, R206, R207, R208, R209, R210, R211) -/
def Obligations.Transfers6502 : Prop :=
  ∀ s : State, s.profile = .m6502 →
    let r := s.m6502
    Plain65 .m6502Tax s { r with x := r.a, z := zeroOf r.a.toNat, n := negativeOf r.a.toNat } [] 0 ∧
    Plain65 .m6502Tay s { r with y := r.a, z := zeroOf r.a.toNat, n := negativeOf r.a.toNat } [] 0 ∧
    Plain65 .m6502Txa s { r with a := r.x, z := zeroOf r.x.toNat, n := negativeOf r.x.toNat } [] 0 ∧
    Plain65 .m6502Tya s { r with a := r.y, z := zeroOf r.y.toNat, n := negativeOf r.y.toNat } [] 0 ∧
    Plain65 .m6502Tsx s { r with x := r.sp, z := zeroOf r.sp.toNat, n := negativeOf r.sp.toNat } [] 0 ∧
    Plain65 .m6502Txs s { r with sp := r.x } [] 0

/-- O36. On every M6502 state and in every mode ADC answers a next state. Where D = 0 or P_DECIMAL_6502 is binary, A is
the sum of A, the operand and C modulo 256, C is its carry out, Z and N are those of the result and V says that the
signed sum does not fit. Where D = 1 and P_DECIMAL_6502 is nmos, A and C come from the decimally corrected sum, Z
from the binary sum, and N and V from the signed intermediate sum. Every other register and flag, every special
state and every byte of memory is as before, and the next instruction follows. The spec marks as its own (general
knowledge, a derivation or a decision of 92_eei_decisions.md) part of R161. (R160, R161, R165, R220) -/
def Obligations.Adc6502 : Prop :=
  ∀ s : State, s.profile = .m6502 →
    let r := s.m6502
    ∀ m,
      let v := (srcOfRead m).value s
      let sum := r.a.toNat + v.toNat + bit r.c
      (r.d = false ∨ s.params.decimal6502 = .binary →
        Plain65 (.m6502Adc m) s
          { r with
            a := BitVec.ofNat 8 sum, c := decide (256 ≤ sum), z := zeroOf sum, n := negativeOf sum
            v := overflows (r.a.toInt + v.toInt + bit r.c) } [] ((srcOfRead m).penalty s)) ∧
      (r.d = true → s.params.decimal6502 = .nmos →
        let units := r.a.toNat % 16 + v.toNat % 16 + bit r.c
        let low := if 10 ≤ units then (units + 6) % 16 + 16 else units
        let high := r.a.toNat / 16 * 16 + v.toNat / 16 * 16 + low
        let total := if 160 ≤ high then high + 96 else high
        let signed : Int := (r.a &&& 0xF0#8).toInt + (v &&& 0xF0#8).toInt + low
        Plain65 (.m6502Adc m) s
          { r with
            a := BitVec.ofNat 8 total, c := decide (256 ≤ total), z := zeroOf sum
            n := decide (128 ≤ signed % 256), v := overflows signed } [] ((srcOfRead m).penalty s))

/-- O37. On every M6502 state and in every mode SBC answers a next state. C is 1 exactly where A less the operand less
the borrow (1 - C) is not negative, Z and N are those of that difference modulo 256 and V says that the signed
difference does not fit, in binary and decimal mode alike. A is that difference modulo 256, but where D = 1 and
P_DECIMAL_6502 is nmos it is the decimally corrected one. Every other register and flag, every special state and
every byte of memory is as before, and the next instruction follows. The spec marks as its own (general knowledge, a
derivation or a decision of 92_eei_decisions.md) part of R162, R163. (R162, R163, R221) -/
def Obligations.Sbc6502 : Prop :=
  ∀ s : State, s.profile = .m6502 →
    let r := s.m6502
    ∀ m,
      let v := (srcOfRead m).value s
      let diff : Int := r.a.toNat - v.toNat - (1 - bit r.c)
      let flags : Regs65 :=
        { r with
          c := decide (0 ≤ diff), z := decide (diff % 256 = 0), n := decide (128 ≤ diff % 256)
          v := overflows (r.a.toInt - v.toInt - (1 - bit r.c)) }
      (r.d = false ∨ s.params.decimal6502 = .binary →
        Plain65 (.m6502Sbc m) s { flags with a := BitVec.ofInt 8 diff } [] ((srcOfRead m).penalty s)) ∧
      (r.d = true → s.params.decimal6502 = .nmos →
        let units : Int := (r.a.toNat % 16 : Nat) - (v.toNat % 16 : Nat) + bit r.c - 1
        let low : Int := if units < 0 then (units - 6) % 16 - 16 else units
        let high : Int := (r.a.toNat / 16 * 16 : Nat) - (v.toNat / 16 * 16 : Nat) + low
        let total : Int := if high < 0 then high - 96 else high
        Plain65 (.m6502Sbc m) s { flags with a := BitVec.ofInt 8 total } [] ((srcOfRead m).penalty s))

/-- O38. On every M6502 state and in every mode AND, ORA and EOR answer a next state with the bitwise result in A and Z
and N of the result; BIT writes nothing but Z (A and the operand have no common bit), N (bit 7 of the operand) and V
(bit 6 of the operand). Every other register and flag, every special state and every byte of memory is as before,
and the next instruction follows. The spec marks as its own (general knowledge, a derivation or a decision of
92_eei_decisions.md) part of R166. (R166, R167, R222, R223, R224, R225) -/
def Obligations.Logic6502 : Prop :=
  ∀ s : State, s.profile = .m6502 →
    let r := s.m6502
    (∀ m, let out := r.a &&& (srcOfRead m).value s
      Plain65 (.m6502And m) s { r with a := out, z := zeroOf out.toNat, n := negativeOf out.toNat } []
        ((srcOfRead m).penalty s)) ∧
    (∀ m, let out := r.a ||| (srcOfRead m).value s
      Plain65 (.m6502Ora m) s { r with a := out, z := zeroOf out.toNat, n := negativeOf out.toNat } []
        ((srcOfRead m).penalty s)) ∧
    (∀ m, let out := r.a ^^^ (srcOfRead m).value s
      Plain65 (.m6502Eor m) s { r with a := out, z := zeroOf out.toNat, n := negativeOf out.toNat } []
        ((srcOfRead m).penalty s)) ∧
    ∀ m, let v := (srcOfBit m).value s
      Plain65 (.m6502Bit m) s
        { r with z := zeroOf (r.a &&& v).toNat, n := negativeOf v.toNat, v := decide (64 ≤ v.toNat % 128) } []
        ((srcOfBit m).penalty s)

/-- O39. On every M6502 state and in every mode CMP, CPX and CPY answer a next state: C says that the register is at
least the operand, Z that they are equal, N is bit 7 of the difference modulo 256; nothing is stored, V is unchanged
and D has no effect. Every other register and flag, every special state and every byte of memory is as before, and
the next instruction follows. The spec marks as its own (general knowledge, a derivation or a decision of
92_eei_decisions.md) part of R164. (R164, R226, R227, R228) -/
def Obligations.Compares6502 : Prop :=
  ∀ s : State, s.profile = .m6502 →
    let r := s.m6502
    let compared (reg v : Byte) : Regs65 :=
      { r with
        c := decide (v.toNat ≤ reg.toNat), z := decide (reg = v), n := negativeOf (reg.toNat + 256 - v.toNat) }
    (∀ m, let v := (srcOfRead m).value s
      Plain65 (.m6502Cmp m) s (compared r.a v) [] ((srcOfRead m).penalty s)) ∧
    (∀ m, let v := (srcOfCpx m).value s
      Plain65 (.m6502Cpx m) s (compared r.x v) [] ((srcOfCpx m).penalty s)) ∧
    (∀ m, let v := (srcOfCpx m).value s
      Plain65 (.m6502Cpy m) s (compared r.y v) [] ((srcOfCpx m).penalty s))

/-- O40. On every M6502 state INC and DEC (in every mode, each of which gives an effective address), INX, INY, DEX and
DEY answer a next state: the operand goes up or down by one modulo 256, Z and N are those of the result, and C and V
are unchanged. INC and DEC store at the effective address and nowhere else. Every other register and flag, every
special state and every byte of memory is as before, and the next instruction follows. (R170, R229, R230, R231,
R232, R233, R234, R240) -/
def Obligations.IncDec6502 : Prop :=
  ∀ s : State, s.profile = .m6502 →
    let r := s.m6502
    (∀ m : Mode65.Inc, ∃ ea, dstOfInc m = .mem ea) ∧
    (∀ m ea, dstOfInc m = .mem ea →
      let out := (s.readByte (ea.addr s)).toNat + 1
      Plain65 (.m6502Inc m) s { r with z := zeroOf out, n := negativeOf out } [(ea.addr s, BitVec.ofNat 8 out)] 0) ∧
    (∀ m ea, dstOfInc m = .mem ea →
      let out := (s.readByte (ea.addr s)).toNat + 255
      Plain65 (.m6502Dec m) s { r with z := zeroOf out, n := negativeOf out } [(ea.addr s, BitVec.ofNat 8 out)] 0) ∧
    (let out := r.x.toNat + 1
     Plain65 .m6502Inx s { r with x := BitVec.ofNat 8 out, z := zeroOf out, n := negativeOf out } [] 0) ∧
    (let out := r.y.toNat + 1
     Plain65 .m6502Iny s { r with y := BitVec.ofNat 8 out, z := zeroOf out, n := negativeOf out } [] 0) ∧
    (let out := r.x.toNat + 255
     Plain65 .m6502Dex s { r with x := BitVec.ofNat 8 out, z := zeroOf out, n := negativeOf out } [] 0) ∧
    (let out := r.y.toNat + 255
     Plain65 .m6502Dey s { r with y := BitVec.ofNat 8 out, z := zeroOf out, n := negativeOf out } [] 0)

/-- O41. On every M6502 state, on the accumulator and in every memory mode, the shifts and rotates answer a next state:
the result (in A, or stored at the effective address and nowhere else), C from the bit shifted out, Z and N of the
result, V unchanged. No page-cross cycle is charged. Every other register and flag, every special state and every
byte of memory is as before, and the next instruction follows. The spec marks as its own (general knowledge, a
derivation or a decision of 92_eei_decisions.md) part of R168, R238. (R168, R235, R236, R237, R238, R240) -/
def Obligations.Shifts6502 : Prop :=
  ∀ (s : State) (m : Mode65.Shift), s.profile = .m6502 →
    Shift65 (.m6502Asl m) s m (fun x _ => 2 * x) (fun x => decide (128 ≤ x)) ∧
    Shift65 (.m6502Lsr m) s m (fun x _ => x / 2) (fun x => decide (x % 2 = 1)) ∧
    Shift65 (.m6502Rol m) s m (fun x c => 2 * x + c) (fun x => decide (128 ≤ x)) ∧
    Shift65 (.m6502Ror m) s m (fun x c => x / 2 + 128 * c) (fun x => decide (x % 2 = 1))

/-- O42. On every M6502 state and for every offset the eight branches answer a next state: PC is the address after the
branch, moved by the signed offset if the condition on its flag holds; 1 more tick if taken, 2 more if the target is
on another page than the next instruction. Nothing else changes. The spec marks as its own (general knowledge, a
derivation or a decision of 92_eei_decisions.md) part of R250. (R250, R251, R252, R253, R254, R255, R256, R257,
R258, R142) -/
def Obligations.Branches6502 : Prop :=
  ∀ (s : State) (off : Byte), s.profile = .m6502 →
    Branch65 (.m6502Bpl off) s off (!s.m6502.n) ∧ Branch65 (.m6502Bmi off) s off s.m6502.n ∧
    Branch65 (.m6502Bvc off) s off (!s.m6502.v) ∧ Branch65 (.m6502Bvs off) s off s.m6502.v ∧
    Branch65 (.m6502Bcc off) s off (!s.m6502.c) ∧ Branch65 (.m6502Bcs off) s off s.m6502.c ∧
    Branch65 (.m6502Bne off) s off (!s.m6502.z) ∧ Branch65 (.m6502Beq off) s off s.m6502.z

/-- O43. On every M6502 state JMP, JSR and RTS answer a next state. JMP goes to its address or, indirect, to the word at
the pointer. JSR pushes the address of the next instruction, less one under the hw convention, in the byte order of
P_STACK_ORDER_6502, takes SP down by 2 and goes to its address. RTS takes SP up by 2 and goes to the stacked word,
plus one under the hw convention. No flag and no other register changes, and only JSR stores. The spec marks as its
own (general knowledge, a derivation or a decision of 92_eei_decisions.md) part of R112, R260, R261. (R259, R260,
R261, R112) -/
def Obligations.Jumps6502 : Prop :=
  ∀ s : State, s.profile = .m6502 →
    let r := s.m6502
    (∀ w, Runs65 (.m6502Jmp (.abs w)) s r w [] (s.cyclesOf (.m6502Jmp (.abs w)))) ∧
    (∀ w, Runs65 (.m6502Jmp (.ind w)) s r (indirectTarget s w) [] (s.cyclesOf (.m6502Jmp (.ind w)))) ∧
    (∀ w, Runs65 (.m6502Jsr w) s { r with sp := r.sp - 2 } w
      (pushedWord65 s.params.stackOrder r.sp (if s.params.jsrConvention = .hw then s.pc + 2 else s.pc + 3))
      (s.cyclesOf (.m6502Jsr w))) ∧
    Runs65 .m6502Rts s { r with sp := r.sp + 2 }
      (stackedWord65 s r.sp + if s.params.jsrConvention = .hw then 1 else 0) [] (s.cyclesOf .m6502Rts)

/-- O44. On every M6502 state BRK and RTI answer a next state. BRK takes the trap: it pushes the opcode address plus 2
and the status byte with B = 1 and bit 5 = 1, takes SP down by 3, sets I and loads PC from 0xFFFE, low byte first; D
and the register-file B stay. RTI takes the status byte and then PC from the stack, SP up by 3, and every flag (B
included) from the byte. Nothing else changes. The spec marks as its own (general knowledge, a derivation or a
decision of 92_eei_decisions.md) part of R116, R262, R263, R513. (R262, R263, R513, R116) -/
def Obligations.TrapAndReturn6502 : Prop :=
  ∀ s : State, s.profile = .m6502 →
    let r := s.m6502
    Runs65 .m6502Brk s { r with sp := r.sp - 3, i := true } (w16 (s.readByte 0xFFFF) (s.readByte 0xFFFE))
      (frameWrites65 s.params.stackOrder r.sp (s.pc + 2) (getP r ||| 0x30#8)) (s.cyclesOf .m6502Brk) ∧
    let p := s.readByte (stackAddr65 (r.sp + 1))
    Runs65 .m6502Rti s
      { r with
        sp := r.sp + 3, n := p.getLsbD 7, v := p.getLsbD 6, b := p.getLsbD 4, d := p.getLsbD 3, i := p.getLsbD 2
        z := p.getLsbD 1, c := p.getLsbD 0 }
      (stackedWord65 s (r.sp + 1)) [] (s.cyclesOf .m6502Rti)

/-- O45. On every M6502 state PHA and PHP answer a next state with A, or the status byte with bits 5 and 4 set, stored
at 0x0100 + SP and SP one lower; PLA and PLP with SP one higher and the byte there in A, with Z and N of it, or in
the flags (B included). Every other register and flag, every special state and every byte of memory is as before,
and the next instruction follows. The spec marks as its own (general knowledge, a derivation or a decision of
92_eei_decisions.md) part of R25, R265 to R267. (R264, R265, R266, R267, R25) -/
def Obligations.Stack6502 : Prop :=
  ∀ s : State, s.profile = .m6502 →
    let r := s.m6502
    Plain65 .m6502Pha s { r with sp := r.sp - 1 } [(BitVec.ofNat 16 (256 + r.sp.toNat), r.a)] 0 ∧
    Plain65 .m6502Php s { r with sp := r.sp - 1 } [(BitVec.ofNat 16 (256 + r.sp.toNat), getP r ||| 0x30#8)] 0 ∧
    let p := s.readByte (BitVec.ofNat 16 (256 + (r.sp.toNat + 1) % 256))
    Plain65 .m6502Pla s { r with sp := r.sp + 1, a := p, z := zeroOf p.toNat, n := negativeOf p.toNat } [] 0 ∧
    Plain65 .m6502Plp s
      { r with
        sp := r.sp + 1, n := p.getLsbD 7, v := p.getLsbD 6, b := p.getLsbD 4, d := p.getLsbD 3, i := p.getLsbD 2
        z := p.getLsbD 1, c := p.getLsbD 0 } [] 0

/-- O46. On every M6502 state the flag instructions answer a next state with exactly the named flag set or cleared, and
NOP one with nothing changed but PC and the countdown. The spec marks as its own (general knowledge, a derivation or
a decision of 92_eei_decisions.md) part of R178, R275. (R178, R268, R269, R270, R271, R272, R273, R274, R275) -/
def Obligations.FlagInstructions6502 : Prop :=
  ∀ s : State, s.profile = .m6502 →
    let r := s.m6502
    Plain65 .m6502Clc s { r with c := false } [] 0 ∧ Plain65 .m6502Sec s { r with c := true } [] 0 ∧
    Plain65 .m6502Cli s { r with i := false } [] 0 ∧ Plain65 .m6502Sei s { r with i := true } [] 0 ∧
    Plain65 .m6502Cld s { r with d := false } [] 0 ∧ Plain65 .m6502Sed s { r with d := true } [] 0 ∧
    Plain65 .m6502Clv s { r with v := false } [] 0 ∧ Plain65 .m6502Nop s r [] 0

/-- O47. On every M6800 state and in every mode the loads answer a next state: the operand (a byte, or a word high byte
first) is in the register, N and Z are those of the value (N of a word from bit 15), V is cleared, C and H are
unchanged. LDX indexed addresses by the old IX. Every other register and flag, every special state and every byte of
memory is as before, and the next instruction follows. The spec marks as its own (general knowledge, a derivation or
a decision of 92_eei_decisions.md) part of R176. (R176, R300, R301, R304, R305) -/
def Obligations.Loads6800 : Prop :=
  ∀ s : State, s.profile = .m6800 →
    let r := s.m6800
    (∀ m, let v := (srcOfRead68 m).value s
      Plain68 (.m6800Ldaa m) s { r with a := v, n := negativeOf v.toNat, z := zeroOf v.toNat, v := false } []) ∧
    (∀ m, let v := (srcOfRead68 m).value s
      Plain68 (.m6800Ldab m) s { r with b := v, n := negativeOf v.toNat, z := zeroOf v.toNat, v := false } []) ∧
    (∀ m, let w := (srcOfRead16 m).value s
      Plain68 (.m6800Lds m) s
        { r with sp := w, n := decide (32768 ≤ w.toNat), z := decide (w.toNat = 0), v := false } []) ∧
    (∀ m, let w := (srcOfRead16 m).value s
      Plain68 (.m6800Ldx m) s
        { r with ix := w, n := decide (32768 ≤ w.toNat), z := decide (w.toNat = 0), v := false } [])

/-- O48. On every M6800 state and in every mode the stores answer a next state: the byte is at the effective address, or
the word there and at the next address, high byte first, and nothing is stored elsewhere; N and Z are those of the
value, V is cleared, C and H are unchanged. Every other register and flag, every special state and every byte of
memory is as before, and the next instruction follows. The spec marks as its own (general knowledge, a derivation or
a decision of 92_eei_decisions.md) part of R143, R176. (R143, R176, R302, R303, R306, R307) -/
def Obligations.Stores6800 : Prop :=
  ∀ s : State, s.profile = .m6800 →
    let r := s.m6800
    (∀ m, Plain68 (.m6800Staa m) s { r with n := negativeOf r.a.toNat, z := zeroOf r.a.toNat, v := false }
      [((eaOfStore68 m).addr s, r.a)]) ∧
    (∀ m, Plain68 (.m6800Stab m) s { r with n := negativeOf r.b.toNat, z := zeroOf r.b.toNat, v := false }
      [((eaOfStore68 m).addr s, r.b)]) ∧
    (∀ m, Plain68 (.m6800Sts m) s
      { r with n := decide (32768 ≤ r.sp.toNat), z := decide (r.sp.toNat = 0), v := false }
      [((eaOfStore68 m).addr s + 1, BitVec.ofNat 8 r.sp.toNat),
       ((eaOfStore68 m).addr s, BitVec.ofNat 8 (r.sp.toNat / 256))]) ∧
    (∀ m, Plain68 (.m6800Stx m) s
      { r with n := decide (32768 ≤ r.ix.toNat), z := decide (r.ix.toNat = 0), v := false }
      [((eaOfStore68 m).addr s + 1, BitVec.ofNat 8 r.ix.toNat),
       ((eaOfStore68 m).addr s, BitVec.ofNat 8 (r.ix.toNat / 256))])

/-- O49. On every M6800 state these answer a next state. TAB and TBA copy an accumulator, with N and Z of it and V
cleared. TAP loads the six flags from bits 5 to 0 of A; TPA loads A with CC. TSX makes IX be SP + 1 and TXS makes SP
be IX - 1, with no flag. INX and DEX move IX by one and write Z only; INS and DES move SP by one and write no flag.
All wrap. Every other register and flag, every special state and every byte of memory is as before, and the next
instruction follows. The spec marks as its own (general knowledge, a derivation or a decision of
92_eei_decisions.md) part of R35, R177, R313. (R177, R35, R308, R309, R310, R311, R312, R313, R318, R319, R320,
R321) -/
def Obligations.Transfers6800 : Prop :=
  ∀ s : State, s.profile = .m6800 →
    let r := s.m6800
    Plain68 .m6800Tab s { r with b := r.a, n := negativeOf r.a.toNat, z := zeroOf r.a.toNat, v := false } [] ∧
    Plain68 .m6800Tba s { r with a := r.b, n := negativeOf r.b.toNat, z := zeroOf r.b.toNat, v := false } [] ∧
    Plain68 .m6800Tap s
      { r with
        h := r.a.getLsbD 5, i := r.a.getLsbD 4, n := r.a.getLsbD 3, z := r.a.getLsbD 2, v := r.a.getLsbD 1
        c := r.a.getLsbD 0 } [] ∧
    Plain68 .m6800Tpa s { r with a := getCC r } [] ∧
    Plain68 .m6800Tsx s { r with ix := BitVec.ofNat 16 (r.sp.toNat + 1) } [] ∧
    Plain68 .m6800Txs s { r with sp := BitVec.ofNat 16 (r.ix.toNat + 65535) } [] ∧
    Plain68 .m6800Inx s { r with ix := BitVec.ofNat 16 (r.ix.toNat + 1), z := decide (r.ix.toNat = 65535) } [] ∧
    Plain68 .m6800Dex s { r with ix := BitVec.ofNat 16 (r.ix.toNat + 65535), z := decide (r.ix.toNat = 1) } [] ∧
    Plain68 .m6800Ins s { r with sp := BitVec.ofNat 16 (r.sp.toNat + 1) } [] ∧
    Plain68 .m6800Des s { r with sp := BitVec.ofNat 16 (r.sp.toNat + 65535) } []

/-- O50. On every M6800 state PSHA and PSHB answer a next state with the accumulator stored at SP and SP one lower; PULA
and PULB with SP one higher and the byte there in the accumulator. No flag changes. Every other register and flag,
every special state and every byte of memory is as before, and the next instruction follows. (R110, R111, R314,
R315, R316, R317) -/
def Obligations.Stack6800 : Prop :=
  ∀ s : State, s.profile = .m6800 →
    let r := s.m6800
    Plain68 .m6800Psha s { r with sp := r.sp - 1 } [(r.sp, r.a)] ∧
    Plain68 .m6800Pshb s { r with sp := r.sp - 1 } [(r.sp, r.b)] ∧
    Plain68 .m6800Pula s { r with sp := r.sp + 1, a := s.readByte (r.sp + 1) } [] ∧
    Plain68 .m6800Pulb s { r with sp := r.sp + 1, b := s.readByte (r.sp + 1) } []

/-- O51. On every M6800 state and in every mode the additions answer a next state: the accumulator is the sum (with C
for ADCA and ADCB) modulo 256, C its carry out, H the carry out of the low nibbles, N and Z those of the result, and
V says that the signed sum does not fit. Every other register and flag, every special state and every byte of memory
is as before, and the next instruction follows. (R165, R330, R331, R332, R333, R334) -/
def Obligations.Adds6800 : Prop :=
  ∀ s : State, s.profile = .m6800 →
    let r := s.m6800
    let added (x v : Byte) (c : Nat) : Regs68 :=
      { r with
        h := decide (16 ≤ x.toNat % 16 + v.toNat % 16 + c), n := negativeOf (x.toNat + v.toNat + c)
        z := zeroOf (x.toNat + v.toNat + c), v := overflows (x.toInt + v.toInt + c)
        c := decide (256 ≤ x.toNat + v.toNat + c) }
    let sum (x v : Byte) (c : Nat) : Byte := BitVec.ofNat 8 (x.toNat + v.toNat + c)
    (∀ m, let v := (srcOfRead68 m).value s
      Plain68 (.m6800Adda m) s { added r.a v 0 with a := sum r.a v 0 } [] ∧
      Plain68 (.m6800Addb m) s { added r.b v 0 with b := sum r.b v 0 } [] ∧
      Plain68 (.m6800Adca m) s { added r.a v (bit r.c) with a := sum r.a v (bit r.c) } [] ∧
      Plain68 (.m6800Adcb m) s { added r.b v (bit r.c) with b := sum r.b v (bit r.c) } []) ∧
    Plain68 .m6800Aba s { added r.a r.b 0 with a := sum r.a r.b 0 } []

/-- O52. On every M6800 state and in every mode the subtractions and compares answer a next state: C is a borrow (the
unsigned difference, with C for SBCA and SBCB, is negative), N and Z are those of the difference modulo 256, V says
that the signed difference does not fit, H is unchanged; the subtractions put the difference into the accumulator,
the compares store nothing. Every other register and flag, every special state and every byte of memory is as
before, and the next instruction follows. The spec marks as its own (general knowledge, a derivation or a decision
of 92_eei_decisions.md) part of R171. (R171, R335, R336, R337, R338, R339, R340, R341, R342) -/
def Obligations.Subtracts6800 : Prop :=
  ∀ s : State, s.profile = .m6800 →
    let r := s.m6800
    let flagged (x v : Byte) (c : Nat) : Regs68 :=
      { r with
        n := decide (128 ≤ ((x.toNat : Int) - v.toNat - c) % 256), z := decide (((x.toNat : Int) - v.toNat - c) % 256 = 0)
        v := overflows (x.toInt - v.toInt - c), c := decide (x.toNat < v.toNat + c) }
    let difference (x v : Byte) (c : Nat) : Byte := BitVec.ofInt 8 ((x.toNat : Int) - v.toNat - c)
    (∀ m, let v := (srcOfRead68 m).value s
      Plain68 (.m6800Suba m) s { flagged r.a v 0 with a := difference r.a v 0 } [] ∧
      Plain68 (.m6800Subb m) s { flagged r.b v 0 with b := difference r.b v 0 } [] ∧
      Plain68 (.m6800Sbca m) s { flagged r.a v (bit r.c) with a := difference r.a v (bit r.c) } [] ∧
      Plain68 (.m6800Sbcb m) s { flagged r.b v (bit r.c) with b := difference r.b v (bit r.c) } [] ∧
      Plain68 (.m6800Cmpa m) s (flagged r.a v 0) [] ∧ Plain68 (.m6800Cmpb m) s (flagged r.b v 0) []) ∧
    Plain68 .m6800Sba s { flagged r.a r.b 0 with a := difference r.a r.b 0 } [] ∧
    Plain68 .m6800Cba s (flagged r.a r.b 0) []

/-- O53. On every M6800 state and in every mode CPX answers a next state: Z says that IX equals the 16-bit operand; N
and V are those of the subtraction of the high bytes alone, with no borrow from the low ones; C and H are unchanged
and nothing is stored. Every other register and flag, every special state and every byte of memory is as before, and
the next instruction follows. The spec marks as its own (general knowledge, a derivation or a decision of
92_eei_decisions.md) part of R175, R343. (R175, R343) -/
def Obligations.Cpx6800 : Prop :=
  ∀ s : State, s.profile = .m6800 →
    let r := s.m6800
    ∀ m, let w := (srcOfRead16 m).value s
      Plain68 (.m6800Cpx m) s
        { r with
          z := decide (r.ix = w), n := negativeOf (r.ix.toNat / 256 + 256 - w.toNat / 256)
          v := overflows ((hi r.ix).toInt - (hi w).toInt) } []

/-- O54. On every M6800 state and in every mode the logical instructions answer a next state: the bitwise result is in
the accumulator (BITA and BITB store nothing), N and Z are those of the result, V is cleared, C and H are unchanged.
Every other register and flag, every special state and every byte of memory is as before, and the next instruction
follows. The spec marks as its own (general knowledge, a derivation or a decision of 92_eei_decisions.md) part of
R166, R346. (R166, R344, R345, R346, R347, R348, R349, R350, R351) -/
def Obligations.Logic6800 : Prop :=
  ∀ s : State, s.profile = .m6800 →
    let r := s.m6800
    ∀ m, let v := (srcOfRead68 m).value s
      Plain68 (.m6800Anda m) s (let out := r.a &&& v
        { r with a := out, n := negativeOf out.toNat, z := zeroOf out.toNat, v := false }) [] ∧
      Plain68 (.m6800Andb m) s (let out := r.b &&& v
        { r with b := out, n := negativeOf out.toNat, z := zeroOf out.toNat, v := false }) [] ∧
      Plain68 (.m6800Bita m) s (let out := r.a &&& v
        { r with n := negativeOf out.toNat, z := zeroOf out.toNat, v := false }) [] ∧
      Plain68 (.m6800Bitb m) s (let out := r.b &&& v
        { r with n := negativeOf out.toNat, z := zeroOf out.toNat, v := false }) [] ∧
      Plain68 (.m6800Eora m) s (let out := r.a ^^^ v
        { r with a := out, n := negativeOf out.toNat, z := zeroOf out.toNat, v := false }) [] ∧
      Plain68 (.m6800Eorb m) s (let out := r.b ^^^ v
        { r with b := out, n := negativeOf out.toNat, z := zeroOf out.toNat, v := false }) [] ∧
      Plain68 (.m6800Oraa m) s (let out := r.a ||| v
        { r with a := out, n := negativeOf out.toNat, z := zeroOf out.toNat, v := false }) [] ∧
      Plain68 (.m6800Orab m) s (let out := r.b ||| v
        { r with b := out, n := negativeOf out.toNat, z := zeroOf out.toNat, v := false }) []

/-- O55. On every M6800 state DAA answers a next state: A is A plus the correction, modulo 256; C is set where it was
set or the sum carries, and never cleared; N and Z are those of the result; V is the next value drawn, about which
nothing is known; H and everything else is unchanged. V is the model's free value (log entry 4): the statement holds
whichever Boolean each draw gives. The spec marks as its own (general knowledge, a derivation or a decision of
92_eei_decisions.md) part of R174, R352. (R174, R352) -/
def Obligations.Daa6800 : Prop :=
  ∀ s : State, s.profile = .m6800 →
    let r := s.m6800
    let low := r.a.toNat % 16
    let high := r.a.toNat / 16
    let correction :=
      (if r.h = true ∨ 9 < low then 6 else 0) +
        (if r.c = true ∨ 9 < high ∨ (8 < high ∧ 9 < low) then 96 else 0)
    let sum := r.a.toNat + correction
    ∃ t, exec .m6800Daa s = .next t ∧ Wrote s t [] ∧
      t = { s with
            m6800 :=
              { r with
                a := BitVec.ofNat 8 sum, c := r.c || decide (256 ≤ sum), n := negativeOf sum, z := zeroOf sum
                v := Config.freeDaaV s.draws }
            pc := s.pc + 1
            mem := t.mem
            remaining := s.cyclesOf .m6800Daa - 1
            draws := s.draws + 1 }

/-- O56. On every M6800 state the eighteen spellings answer a next state. NEG: 0 - x, V where the result is 0x80, C
where it is not 0. COM: the complement, V clear, C set. INC and DEC: x + 1 and x - 1, V where x was 0x7F or 0x80, C
unchanged. CLR: 0, with Z set and N, V and C clear. TST: nothing written but N and Z of x and V and C clear. N and Z
are those of the result, H is unchanged. The memory forms of NEG, COM, INC, DEC and CLR store at the effective
address and nowhere else. Every other register and flag, every special state and every byte of memory is as before,
and the next instruction follows. The spec marks as its own (general knowledge, a derivation or a decision of
92_eei_decisions.md) part of R172, R173, R353 to R370. (R172, R173, R353 to R370) -/
def Obligations.SingleOperand6800 : Prop :=
  SingleOperand .m6800Nega .m6800Negb .m6800Neg (fun x _ => BitVec.ofNat 8 (256 - x.toNat))
    (fun x r => { r with n := negativeOf (256 - x.toNat), z := decide (x.toNat = 0), v := decide (x.toNat = 128), c := decide (x.toNat ≠ 0) }) ∧
  SingleOperand .m6800Coma .m6800Comb .m6800Com (fun x _ => BitVec.ofNat 8 (255 - x.toNat))
    (fun x r => { r with n := decide (x.toNat < 128), z := decide (x.toNat = 255), v := false, c := true }) ∧
  SingleOperand .m6800Inca .m6800Incb .m6800Inc (fun x _ => BitVec.ofNat 8 (x.toNat + 1))
    (fun x r => { r with n := negativeOf (x.toNat + 1), z := zeroOf (x.toNat + 1), v := decide (x.toNat = 127) }) ∧
  SingleOperand .m6800Deca .m6800Decb .m6800Dec (fun x _ => BitVec.ofNat 8 (x.toNat + 255))
    (fun x r => { r with n := negativeOf (x.toNat + 255), z := zeroOf (x.toNat + 255), v := decide (x.toNat = 128) }) ∧
  SingleOperand .m6800Clra .m6800Clrb .m6800Clr (fun x _ => BitVec.ofNat 8 (0 * x.toNat))
    (fun x r => { r with n := false, z := zeroOf (0 * x.toNat), v := false, c := false }) ∧
  ∀ s : State, s.profile = .m6800 →
    let tested (x : Byte) : Regs68 :=
      { s.m6800 with n := negativeOf x.toNat, z := zeroOf x.toNat, v := false, c := false }
    Plain68 .m6800Tsta s (tested s.m6800.a) [] ∧ Plain68 .m6800Tstb s (tested s.m6800.b) [] ∧
    ∀ m, Plain68 (.m6800Tst m) s (tested (s.readByte ((eaOfMem m).addr s))) []

/-- O57. On every M6800 state the fifteen spellings answer a next state: the operand becomes the shifted or rotated byte
(ASR keeps bit 7), C the bit shifted out, N and Z those of the result, V is N xor C after the shift, H unchanged;
the memory forms store at the effective address and nowhere else. Every other register and flag, every special state
and every byte of memory is as before, and the next instruction follows. The spec marks as its own (general
knowledge, a derivation or a decision of 92_eei_decisions.md) part of R169, R371 to R385. (R169, R371 to R385) -/
def Obligations.Shifts6800 : Prop :=
  Shift68 .m6800Asla .m6800Aslb .m6800Asl (fun x _ => 2 * x) (fun x => decide (128 ≤ x)) ∧
  Shift68 .m6800Asra .m6800Asrb .m6800Asr (fun x _ => x / 2 + x / 128 * 128) (fun x => decide (x % 2 = 1)) ∧
  Shift68 .m6800Lsra .m6800Lsrb .m6800Lsr (fun x _ => x / 2) (fun x => decide (x % 2 = 1)) ∧
  Shift68 .m6800Rola .m6800Rolb .m6800Rol (fun x c => 2 * x + c) (fun x => decide (128 ≤ x)) ∧
  Shift68 .m6800Rora .m6800Rorb .m6800Ror (fun x c => x / 2 + 128 * c) (fun x => decide (x % 2 = 1))

/-- O58. On every M6800 state the fifteen branches answer a next state: PC is the address after the branch, moved by the
signed offset if the condition on the flags holds, with the same ticks either way. BSR and JSR push the address of
the next instruction (low byte at SP, high byte below it), take SP down by 2 and go to their target; JMP goes to its
effective address; RTS takes SP up by 2 and goes to the stacked word. Nothing else changes. The spec marks as its
own (general knowledge, a derivation or a decision of 92_eei_decisions.md) part of R113, R400, R415, R416, R419.
(R400 to R419, R151, R113) -/
def Obligations.Branches6800 : Prop :=
  ∀ s : State, s.profile = .m6800 →
    let r := s.m6800
    (∀ off : Byte,
      Branch68 (.m6800Bra off) s off true ∧
      Branch68 (.m6800Bhi off) s off (!r.c && !r.z) ∧ Branch68 (.m6800Bls off) s off (r.c || r.z) ∧
      Branch68 (.m6800Bcc off) s off (!r.c) ∧ Branch68 (.m6800Bcs off) s off r.c ∧
      Branch68 (.m6800Bne off) s off (!r.z) ∧ Branch68 (.m6800Beq off) s off r.z ∧
      Branch68 (.m6800Bvc off) s off (!r.v) ∧ Branch68 (.m6800Bvs off) s off r.v ∧
      Branch68 (.m6800Bpl off) s off (!r.n) ∧ Branch68 (.m6800Bmi off) s off r.n ∧
      Branch68 (.m6800Bge off) s off (r.n == r.v) ∧ Branch68 (.m6800Blt off) s off (r.n != r.v) ∧
      Branch68 (.m6800Bgt off) s off (!r.z && r.n == r.v) ∧ Branch68 (.m6800Ble off) s off (r.z || r.n != r.v) ∧
      Runs68 (.m6800Bsr off) s { r with sp := r.sp - 2 } (BitVec.ofInt 16 (s.pc.toNat + 2 + off.toInt))
        [(r.sp - 1, hi (s.pc + 2)), (r.sp, lo (s.pc + 2))] (s.cyclesOf (.m6800Bsr off))) ∧
    (∀ m, Runs68 (.m6800Jmp m) s r ((eaOfMem m).addr s) [] (s.cyclesOf (.m6800Jmp m))) ∧
    (∀ m, Runs68 (.m6800Jsr m) s { r with sp := r.sp - 2 } ((eaOfMem m).addr s)
      [(r.sp - 1, hi (s.after (.m6800Jsr m))), (r.sp, lo (s.after (.m6800Jsr m)))] (s.cyclesOf (.m6800Jsr m))) ∧
    Runs68 .m6800Rts s { r with sp := r.sp + 2 } (w16 (s.readByte (r.sp + 1)) (s.readByte (r.sp + 2))) []
      (s.cyclesOf .m6800Rts)

/-- O59. On every M6800 state SWI, WAI and RTI answer a next state. SWI takes the trap: it pushes the seven-byte frame
with PC at the next instruction and the old I, takes SP down by 7, sets I and loads PC from 0xFFFA, high byte first,
after the stores. WAI pushes the same frame and starts the wait, with I unchanged. RTI takes CC, B, A, IX and PC
from the frame, SP up by 7. Nothing else changes. The spec marks as its own (general knowledge, a derivation or a
decision of 92_eei_decisions.md) part of R115, R420 to R422, R521. (R420, R421, R422, R521, R115) -/
def Obligations.TrapAndReturn6800 : Prop :=
  ∀ s : State, s.profile = .m6800 →
    let r := s.m6800
    let writes := frameWrites68 r (s.pc + 1)
    Runs68 .m6800Swi s { r with sp := r.sp - 7, i := true }
      (w16 (bytesAfter s writes 0xFFFA) (bytesAfter s writes 0xFFFB)) writes (s.cyclesOf .m6800Swi) ∧
    (∃ t, exec .m6800Wai s = .next t ∧ Wrote s t writes ∧
      t = { s with
            m6800 := { r with sp := r.sp - 7 }
            waiting := true
            pc := s.pc + 1
            mem := t.mem
            remaining := s.cyclesOf .m6800Wai - 1 }) ∧
    let stacked (k : Nat) : Byte := s.readByte (r.sp + BitVec.ofNat 16 k)
    Runs68 .m6800Rti s
      { sp := r.sp + 7, b := stacked 2, a := stacked 3, ix := w16 (stacked 4) (stacked 5), h := (stacked 1).getLsbD 5
        i := (stacked 1).getLsbD 4
        n := (stacked 1).getLsbD 3, z := (stacked 1).getLsbD 2, v := (stacked 1).getLsbD 1, c := (stacked 1).getLsbD 0 }
      (w16 (stacked 6) (stacked 7)) [] (s.cyclesOf .m6800Rti)

/-- O60. On every M6800 state the flag instructions answer a next state with exactly the named flag set or cleared, and
NOP one with nothing changed but PC and the countdown. The spec marks as its own (general knowledge, a derivation or
a decision of 92_eei_decisions.md) part of R178, R423, R426, R429. (R178, R423, R424, R425, R426, R427, R428, R429) -/
def Obligations.FlagInstructions6800 : Prop :=
  ∀ s : State, s.profile = .m6800 →
    let r := s.m6800
    Plain68 .m6800Nop s r [] ∧
    Plain68 .m6800Clc s { r with c := false } [] ∧ Plain68 .m6800Sec s { r with c := true } [] ∧
    Plain68 .m6800Cli s { r with i := false } [] ∧ Plain68 .m6800Sei s { r with i := true } [] ∧
    Plain68 .m6800Clv s { r with v := false } [] ∧ Plain68 .m6800Sev s { r with v := true } []
end

