-- ==== Sys2Proof/Laws/Words.lean ====
section
/-!
SUPPORT. The word helpers of Bits.lean and the branch target in numbers.
-/

namespace Sys2Proof.Machine

theorem hi_toNat (w : Word) : (hi w).toNat = w.toNat / 256 := by
  have := w.isLt
  simp only [hi, BitVec.extractLsb'_toNat, Nat.shiftRight_eq_div_pow]
  omega

theorem lo_toNat (w : Word) : (lo w).toNat = w.toNat % 256 := by
  simp only [lo, BitVec.extractLsb'_toNat, Nat.shiftRight_eq_div_pow]
  omega

theorem w16_toNat (h l : Byte) : (w16 h l).toNat = h.toNat * 256 + l.toNat := by
  have := l.isLt
  simp only [w16, BitVec.toNat_append, Nat.shiftLeft_eq]
  rw [← Nat.shiftLeft_eq, ← Nat.shiftLeft_add_eq_or_of_lt (by omega), Nat.shiftLeft_eq]

theorem zext16_toNat (b : Byte) : (zext16 b).toNat = b.toNat := by
  have := b.isLt
  simp only [zext16, BitVec.zeroExtend, BitVec.toNat_setWidth]
  omega

@[simp] theorem w16_hi_lo (w : Word) : w16 (hi w) (lo w) = w := by
  apply BitVec.eq_of_toNat_eq
  rw [w16_toNat, hi_toNat, lo_toNat]
  omega

@[simp] theorem hi_w16 (h l : Byte) : hi (w16 h l) = h := by
  apply BitVec.eq_of_toNat_eq
  have := l.isLt
  rw [hi_toNat, w16_toNat]
  omega

@[simp] theorem lo_w16 (h l : Byte) : lo (w16 h l) = l := by
  apply BitVec.eq_of_toNat_eq
  have := l.isLt
  rw [lo_toNat, w16_toNat]
  omega

theorem sext16_eq (b : Byte) : sext16 b = BitVec.ofInt 16 b.toInt := by
  unfold sext16
  rw [BitVec.signExtend]

/-- A relative target is the address of the next instruction plus the signed offset (41_addressing_modes.md R142). -/
theorem relTarget_eq (pc : Word) (off : Byte) : relTarget pc off = BitVec.ofInt 16 (pc.toNat + off.toInt) := by
  unfold relTarget
  rw [sext16_eq]
  apply BitVec.eq_of_toNat_eq
  have := pc.isLt
  simp only [BitVec.toNat_add, BitVec.toNat_ofInt]
  omega

/-- The M6502 stack byte is in page 1 (10_state.md R21). -/
theorem stackAddr65_toNat (sp : Byte) : (stackAddr65 sp).toNat = 256 + sp.toNat := by
  have := sp.isLt
  simp only [stackAddr65, BitVec.toNat_add, zext16_toNat, BitVec.toNat_ofNat]
  omega

theorem stackAddr65_inj {a b : Byte} : stackAddr65 a = stackAddr65 b ↔ a = b := by
  constructor
  · intro h
    have := congrArg BitVec.toNat h
    rw [stackAddr65_toNat, stackAddr65_toNat] at this
    exact BitVec.eq_of_toNat_eq (by omega)
  · rintro rfl
    rfl

/-- An address outside page 1 is no stack byte. -/
theorem ne_stackAddr65 {a : Word} (sp : Byte) (h : 512 ≤ a.toNat) : a ≠ stackAddr65 sp := by
  rintro rfl
  rw [stackAddr65_toNat] at h
  have := sp.isLt
  omega

end Sys2Proof.Machine
end

