-- ==== Sys2Proof/Laws/Decode.lean ====
section
/-!
SUPPORT. What decoding can answer, by the opcode map, and that every entry of the two maps agrees with the encoder.
-/

namespace Sys2Proof

/-! ### Decoding follows the map -/

theorem decodeAt_of_lookup_none {p : Profile} {op : Byte} (h : lookup p op = none) (b1 b2 : Byte) :
    decodeAt p op b1 b2 = none := by
  simp only [decodeAt, decode, h]

theorem exists_decodeAt {p : Profile} {op : Byte} (h : lookup p op ≠ none) (b1 b2 : Byte) :
    ∃ i, decodeAt p op b1 b2 = some i := by
  obtain ⟨sh, h⟩ := Option.ne_none_iff_exists'.mp h
  cases sh <;> simp [decodeAt, decode, h]

theorem decodeAt_eq_none_iff (p : Profile) (op b1 b2 : Byte) : decodeAt p op b1 b2 = none ↔ lookup p op = none := by
  refine ⟨fun h => Classical.byContradiction fun hn => ?_, fun h => decodeAt_of_lookup_none h b1 b2⟩
  obtain ⟨i, e⟩ := exists_decodeAt hn b1 b2
  rw [h] at e
  cases e

/-! ### The maps agree with the encoder -/

/-- An entry at opcode byte `op` of the map of profile `p` gives instructions of `p` that are encoded with `op` and the
operand bytes in the entry's order. -/
def Shape.Encodes (p : Profile) (op : Byte) : Shape → Prop
  | .alone i => i.profile = p ∧ encode i = [op]
  | .byte f => ∀ b, (f b).profile = p ∧ encode (f b) = [op, b]
  | .lowFirst f => ∀ w, (f w).profile = p ∧ encode (f w) = [op, Machine.lo w, Machine.hi w]
  | .highFirst f => ∀ w, (f w).profile = p ∧ encode (f w) = [op, Machine.hi w, Machine.lo w]

/-- Every entry of a row that starts at opcode `n` agrees with the encoder. -/
def RowEncodes (p : Profile) : Nat → List (Option Shape) → Prop
  | _, [] => True
  | n, none :: row => RowEncodes p (n + 1) row
  | n, some sh :: row => sh.Encodes p (BitVec.ofNat 8 n) ∧ RowEncodes p (n + 1) row

theorem RowEncodes.entry {p : Profile} {n : Nat} {row : List (Option Shape)} (h : RowEncodes p n row) {k : Nat} {sh : Shape}
    (he : row.getD k none = some sh) : sh.Encodes p (BitVec.ofNat 8 (n + k)) := by
  induction row generalizing n k with
  | nil => simp at he
  | cons e row ih =>
    cases k with
    | zero =>
      cases e with
      | none => simp at he
      | some sh' =>
        simp only [List.getD_cons_zero, Option.some.injEq] at he
        exact he ▸ h.1
    | succ k =>
      have hr : RowEncodes p (n + 1) row := by
        cases e with
        | none => exact h
        | some _ => exact h.2
      simpa only [Nat.add_assoc, Nat.add_comm 1] using ih hr he

theorem rowEncodes_m6502_0 : RowEncodes .m6502 0 mapM6502Row0 := by
  repeat' first | exact trivial | exact rfl | constructor | intro _

theorem rowEncodes_m6502_1 : RowEncodes .m6502 16 mapM6502Row1 := by
  repeat' first | exact trivial | exact rfl | constructor | intro _

theorem rowEncodes_m6502_2 : RowEncodes .m6502 32 mapM6502Row2 := by
  repeat' first | exact trivial | exact rfl | constructor | intro _

theorem rowEncodes_m6502_3 : RowEncodes .m6502 48 mapM6502Row3 := by
  repeat' first | exact trivial | exact rfl | constructor | intro _

theorem rowEncodes_m6502_4 : RowEncodes .m6502 64 mapM6502Row4 := by
  repeat' first | exact trivial | exact rfl | constructor | intro _

theorem rowEncodes_m6502_5 : RowEncodes .m6502 80 mapM6502Row5 := by
  repeat' first | exact trivial | exact rfl | constructor | intro _

theorem rowEncodes_m6502_6 : RowEncodes .m6502 96 mapM6502Row6 := by
  repeat' first | exact trivial | exact rfl | constructor | intro _

theorem rowEncodes_m6502_7 : RowEncodes .m6502 112 mapM6502Row7 := by
  repeat' first | exact trivial | exact rfl | constructor | intro _

theorem rowEncodes_m6502_8 : RowEncodes .m6502 128 mapM6502Row8 := by
  repeat' first | exact trivial | exact rfl | constructor | intro _

theorem rowEncodes_m6502_9 : RowEncodes .m6502 144 mapM6502Row9 := by
  repeat' first | exact trivial | exact rfl | constructor | intro _

theorem rowEncodes_m6502_A : RowEncodes .m6502 160 mapM6502RowA := by
  repeat' first | exact trivial | exact rfl | constructor | intro _

theorem rowEncodes_m6502_B : RowEncodes .m6502 176 mapM6502RowB := by
  repeat' first | exact trivial | exact rfl | constructor | intro _

theorem rowEncodes_m6502_C : RowEncodes .m6502 192 mapM6502RowC := by
  repeat' first | exact trivial | exact rfl | constructor | intro _

theorem rowEncodes_m6502_D : RowEncodes .m6502 208 mapM6502RowD := by
  repeat' first | exact trivial | exact rfl | constructor | intro _

theorem rowEncodes_m6502_E : RowEncodes .m6502 224 mapM6502RowE := by
  repeat' first | exact trivial | exact rfl | constructor | intro _

theorem rowEncodes_m6502_F : RowEncodes .m6502 240 mapM6502RowF := by
  repeat' first | exact trivial | exact rfl | constructor | intro _

theorem rowEncodes_m6800_0 : RowEncodes .m6800 0 mapM6800Row0 := by
  repeat' first | exact trivial | exact rfl | constructor

theorem rowEncodes_m6800_1 : RowEncodes .m6800 16 mapM6800Row1 := by
  repeat' first | exact trivial | exact rfl | constructor

theorem rowEncodes_m6800_2 : RowEncodes .m6800 32 mapM6800Row2 := by
  repeat' first | exact trivial | exact rfl | constructor | intro _

theorem rowEncodes_m6800_3 : RowEncodes .m6800 48 mapM6800Row3 := by
  repeat' first | exact trivial | exact rfl | constructor

theorem rowEncodes_m6800_4 : RowEncodes .m6800 64 mapM6800Row4 := by
  repeat' first | exact trivial | exact rfl | constructor

theorem rowEncodes_m6800_5 : RowEncodes .m6800 80 mapM6800Row5 := by
  repeat' first | exact trivial | exact rfl | constructor

theorem rowEncodes_m6800_6 : RowEncodes .m6800 96 mapM6800Row6 := by
  repeat' first | exact trivial | exact rfl | constructor | intro _

theorem rowEncodes_m6800_7 : RowEncodes .m6800 112 mapM6800Row7 := by
  repeat' first | exact trivial | exact rfl | constructor | intro _

theorem rowEncodes_m6800_8 : RowEncodes .m6800 128 mapM6800Row8 := by
  repeat' first | exact trivial | exact rfl | constructor | intro _

theorem rowEncodes_m6800_9 : RowEncodes .m6800 144 mapM6800Row9 := by
  repeat' first | exact trivial | exact rfl | constructor | intro _

theorem rowEncodes_m6800_A : RowEncodes .m6800 160 mapM6800RowA := by
  repeat' first | exact trivial | exact rfl | constructor | intro _

theorem rowEncodes_m6800_B : RowEncodes .m6800 176 mapM6800RowB := by
  repeat' first | exact trivial | exact rfl | constructor | intro _

theorem rowEncodes_m6800_C : RowEncodes .m6800 192 mapM6800RowC := by
  repeat' first | exact trivial | exact rfl | constructor | intro _

theorem rowEncodes_m6800_D : RowEncodes .m6800 208 mapM6800RowD := by
  repeat' first | exact trivial | exact rfl | constructor | intro _

theorem rowEncodes_m6800_E : RowEncodes .m6800 224 mapM6800RowE := by
  repeat' first | exact trivial | exact rfl | constructor | intro _

theorem rowEncodes_m6800_F : RowEncodes .m6800 240 mapM6800RowF := by
  repeat' first | exact trivial | exact rfl | constructor | intro _

theorem rowEncodes_row (p : Profile) (k : Nat) : RowEncodes p (16 * k) ((opcodeMap p).getD k []) := by
  match p, k with
  | .m6502, 0 => exact rowEncodes_m6502_0
  | .m6502, 1 => exact rowEncodes_m6502_1
  | .m6502, 2 => exact rowEncodes_m6502_2
  | .m6502, 3 => exact rowEncodes_m6502_3
  | .m6502, 4 => exact rowEncodes_m6502_4
  | .m6502, 5 => exact rowEncodes_m6502_5
  | .m6502, 6 => exact rowEncodes_m6502_6
  | .m6502, 7 => exact rowEncodes_m6502_7
  | .m6502, 8 => exact rowEncodes_m6502_8
  | .m6502, 9 => exact rowEncodes_m6502_9
  | .m6502, 10 => exact rowEncodes_m6502_A
  | .m6502, 11 => exact rowEncodes_m6502_B
  | .m6502, 12 => exact rowEncodes_m6502_C
  | .m6502, 13 => exact rowEncodes_m6502_D
  | .m6502, 14 => exact rowEncodes_m6502_E
  | .m6502, 15 => exact rowEncodes_m6502_F
  | .m6800, 0 => exact rowEncodes_m6800_0
  | .m6800, 1 => exact rowEncodes_m6800_1
  | .m6800, 2 => exact rowEncodes_m6800_2
  | .m6800, 3 => exact rowEncodes_m6800_3
  | .m6800, 4 => exact rowEncodes_m6800_4
  | .m6800, 5 => exact rowEncodes_m6800_5
  | .m6800, 6 => exact rowEncodes_m6800_6
  | .m6800, 7 => exact rowEncodes_m6800_7
  | .m6800, 8 => exact rowEncodes_m6800_8
  | .m6800, 9 => exact rowEncodes_m6800_9
  | .m6800, 10 => exact rowEncodes_m6800_A
  | .m6800, 11 => exact rowEncodes_m6800_B
  | .m6800, 12 => exact rowEncodes_m6800_C
  | .m6800, 13 => exact rowEncodes_m6800_D
  | .m6800, 14 => exact rowEncodes_m6800_E
  | .m6800, 15 => exact rowEncodes_m6800_F
  | .m6502, k + 16 => exact trivial
  | .m6800, k + 16 => exact trivial

/-- Every entry of the opcode maps agrees with the encoder. -/
theorem encodes_of_lookup {p : Profile} {op : Byte} {sh : Shape} (h : lookup p op = some sh) : sh.Encodes p op := by
  have e := (rowEncodes_row p (op.toNat / 16)).entry h
  rwa [Nat.div_add_mod, BitVec.ofNat_toNat, BitVec.setWidth_eq] at e

/-- What a tick decodes is an instruction of the engine's own table. -/
theorem profile_of_decodeAt {p : Profile} {op b1 b2 : Byte} {i : Instr} (h : decodeAt p op b1 b2 = some i) :
    i.profile = p := by
  cases hl : lookup p op with
  | none => simp [decodeAt_of_lookup_none hl] at h
  | some sh =>
    have e := encodes_of_lookup hl
    cases sh <;> simp only [decodeAt, decode, hl, Option.some.injEq] at h <;> subst h
    · exact e.1
    · exact (e _).1
    · exact (e _).1
    · exact (e _).1

/-- What a tick decodes has the opcode byte it was decoded from. -/
theorem opcode_of_decodeAt {p : Profile} {op b1 b2 : Byte} {i : Instr} (h : decodeAt p op b1 b2 = some i) :
    i.opcode = op := by
  cases hl : lookup p op with
  | none => simp [decodeAt_of_lookup_none hl] at h
  | some sh =>
    have e := encodes_of_lookup hl
    cases sh <;> simp only [decodeAt, decode, hl, Option.some.injEq] at h <;> subst h <;> unfold Instr.opcode
    · rw [e.2]; rfl
    · rw [(e _).2]; rfl
    · rw [(e _).2]; rfl
    · rw [(e _).2]; rfl

end Sys2Proof
end

