-- ==== Sys2Proof/Laws/State.lean ====
section
/-!
SUPPORT. What each named update of the state leaves in each field: one lemma per field, true by unfolding, so that no later
proof unfolds a record update.
-/

namespace Sys2Proof.Machine

/-! ### Writing a byte -/

@[simp] theorem State.writeByte_profile (s : State) (a : Word) (v : Byte) : (s.writeByte a v).profile = s.profile := rfl

@[simp] theorem State.writeByte_params (s : State) (a : Word) (v : Byte) : (s.writeByte a v).params = s.params := rfl

@[simp] theorem State.writeByte_m6502 (s : State) (a : Word) (v : Byte) : (s.writeByte a v).m6502 = s.m6502 := rfl

@[simp] theorem State.writeByte_m6800 (s : State) (a : Word) (v : Byte) : (s.writeByte a v).m6800 = s.m6800 := rfl

@[simp] theorem State.writeByte_pc (s : State) (a : Word) (v : Byte) : (s.writeByte a v).pc = s.pc := rfl

@[simp] theorem State.writeByte_remaining (s : State) (a : Word) (v : Byte) : (s.writeByte a v).remaining = s.remaining := rfl

@[simp] theorem State.writeByte_irqLine (s : State) (a : Word) (v : Byte) : (s.writeByte a v).irqLine = s.irqLine := rfl

@[simp] theorem State.writeByte_nmiLine (s : State) (a : Word) (v : Byte) : (s.writeByte a v).nmiLine = s.nmiLine := rfl

@[simp] theorem State.writeByte_nmiPending (s : State) (a : Word) (v : Byte) : (s.writeByte a v).nmiPending = s.nmiPending := rfl

@[simp] theorem State.writeByte_haltLine (s : State) (a : Word) (v : Byte) : (s.writeByte a v).haltLine = s.haltLine := rfl

@[simp] theorem State.writeByte_waiting (s : State) (a : Word) (v : Byte) : (s.writeByte a v).waiting = s.waiting := rfl

@[simp] theorem State.writeByte_draws (s : State) (a : Word) (v : Byte) : (s.writeByte a v).draws = s.draws := rfl

@[simp] theorem State.writeByte_mem (s : State) (a : Word) (v : Byte) : (s.writeByte a v).mem = memWrite s.mem a.toNat v := rfl

/-! ### Writing a word -/

@[simp] theorem State.writeHighFirst_profile (s : State) (a w : Word) : (s.writeHighFirst a w).profile = s.profile := rfl

@[simp] theorem State.writeHighFirst_params (s : State) (a w : Word) : (s.writeHighFirst a w).params = s.params := rfl

@[simp] theorem State.writeHighFirst_m6502 (s : State) (a w : Word) : (s.writeHighFirst a w).m6502 = s.m6502 := rfl

@[simp] theorem State.writeHighFirst_m6800 (s : State) (a w : Word) : (s.writeHighFirst a w).m6800 = s.m6800 := rfl

@[simp] theorem State.writeHighFirst_pc (s : State) (a w : Word) : (s.writeHighFirst a w).pc = s.pc := rfl

@[simp] theorem State.writeHighFirst_remaining (s : State) (a w : Word) : (s.writeHighFirst a w).remaining = s.remaining := rfl

@[simp] theorem State.writeHighFirst_irqLine (s : State) (a w : Word) : (s.writeHighFirst a w).irqLine = s.irqLine := rfl

@[simp] theorem State.writeHighFirst_nmiLine (s : State) (a w : Word) : (s.writeHighFirst a w).nmiLine = s.nmiLine := rfl

@[simp] theorem State.writeHighFirst_nmiPending (s : State) (a w : Word) : (s.writeHighFirst a w).nmiPending = s.nmiPending := rfl

@[simp] theorem State.writeHighFirst_haltLine (s : State) (a w : Word) : (s.writeHighFirst a w).haltLine = s.haltLine := rfl

@[simp] theorem State.writeHighFirst_waiting (s : State) (a w : Word) : (s.writeHighFirst a w).waiting = s.waiting := rfl

@[simp] theorem State.writeHighFirst_draws (s : State) (a w : Word) : (s.writeHighFirst a w).draws = s.draws := rfl

/-! ### Moving PC past the instruction -/

@[simp] theorem State.advance_profile (s : State) (n : Nat) : (s.advance n).profile = s.profile := rfl

@[simp] theorem State.advance_params (s : State) (n : Nat) : (s.advance n).params = s.params := rfl

@[simp] theorem State.advance_m6502 (s : State) (n : Nat) : (s.advance n).m6502 = s.m6502 := rfl

@[simp] theorem State.advance_m6800 (s : State) (n : Nat) : (s.advance n).m6800 = s.m6800 := rfl

@[simp] theorem State.advance_remaining (s : State) (n : Nat) : (s.advance n).remaining = s.remaining := rfl

@[simp] theorem State.advance_irqLine (s : State) (n : Nat) : (s.advance n).irqLine = s.irqLine := rfl

@[simp] theorem State.advance_nmiLine (s : State) (n : Nat) : (s.advance n).nmiLine = s.nmiLine := rfl

@[simp] theorem State.advance_nmiPending (s : State) (n : Nat) : (s.advance n).nmiPending = s.nmiPending := rfl

@[simp] theorem State.advance_haltLine (s : State) (n : Nat) : (s.advance n).haltLine = s.haltLine := rfl

@[simp] theorem State.advance_waiting (s : State) (n : Nat) : (s.advance n).waiting = s.waiting := rfl

@[simp] theorem State.advance_mem (s : State) (n : Nat) : (s.advance n).mem = s.mem := rfl

@[simp] theorem State.advance_draws (s : State) (n : Nat) : (s.advance n).draws = s.draws := rfl

@[simp] theorem State.advance_pc (s : State) (n : Nat) : (s.advance n).pc = s.pc + BitVec.ofNat 16 n := rfl

/-! ### Setting the countdown -/

@[simp] theorem State.charge_profile (s : State) (n : Nat) : (s.charge n).profile = s.profile := rfl

@[simp] theorem State.charge_params (s : State) (n : Nat) : (s.charge n).params = s.params := rfl

@[simp] theorem State.charge_m6502 (s : State) (n : Nat) : (s.charge n).m6502 = s.m6502 := rfl

@[simp] theorem State.charge_m6800 (s : State) (n : Nat) : (s.charge n).m6800 = s.m6800 := rfl

@[simp] theorem State.charge_pc (s : State) (n : Nat) : (s.charge n).pc = s.pc := rfl

@[simp] theorem State.charge_irqLine (s : State) (n : Nat) : (s.charge n).irqLine = s.irqLine := rfl

@[simp] theorem State.charge_nmiLine (s : State) (n : Nat) : (s.charge n).nmiLine = s.nmiLine := rfl

@[simp] theorem State.charge_nmiPending (s : State) (n : Nat) : (s.charge n).nmiPending = s.nmiPending := rfl

@[simp] theorem State.charge_haltLine (s : State) (n : Nat) : (s.charge n).haltLine = s.haltLine := rfl

@[simp] theorem State.charge_waiting (s : State) (n : Nat) : (s.charge n).waiting = s.waiting := rfl

@[simp] theorem State.charge_mem (s : State) (n : Nat) : (s.charge n).mem = s.mem := rfl

@[simp] theorem State.charge_draws (s : State) (n : Nat) : (s.charge n).draws = s.draws := rfl

@[simp] theorem State.charge_remaining (s : State) (n : Nat) : (s.charge n).remaining = n - 1 := rfl

/-! ### The M6502 stack -/

@[simp] theorem push65_profile (v : Byte) (s : State) : (push65 v s).profile = s.profile := rfl

@[simp] theorem push65_params (v : Byte) (s : State) : (push65 v s).params = s.params := rfl

@[simp] theorem push65_m6800 (v : Byte) (s : State) : (push65 v s).m6800 = s.m6800 := rfl

@[simp] theorem push65_pc (v : Byte) (s : State) : (push65 v s).pc = s.pc := rfl

@[simp] theorem push65_remaining (v : Byte) (s : State) : (push65 v s).remaining = s.remaining := rfl

@[simp] theorem push65_irqLine (v : Byte) (s : State) : (push65 v s).irqLine = s.irqLine := rfl

@[simp] theorem push65_nmiLine (v : Byte) (s : State) : (push65 v s).nmiLine = s.nmiLine := rfl

@[simp] theorem push65_nmiPending (v : Byte) (s : State) : (push65 v s).nmiPending = s.nmiPending := rfl

@[simp] theorem push65_haltLine (v : Byte) (s : State) : (push65 v s).haltLine = s.haltLine := rfl

@[simp] theorem push65_waiting (v : Byte) (s : State) : (push65 v s).waiting = s.waiting := rfl

@[simp] theorem push65_draws (v : Byte) (s : State) : (push65 v s).draws = s.draws := rfl

@[simp] theorem push65_m6502 (v : Byte) (s : State) : (push65 v s).m6502 = { s.m6502 with sp := s.m6502.sp - 1 } := rfl

@[simp] theorem push65_mem (v : Byte) (s : State) : (push65 v s).mem = memWrite s.mem (stackAddr65 s.m6502.sp).toNat v := rfl

/-! ### Pulling on the M6502 -/

@[simp] theorem pull65_profile (s : State) : (pull65 s).profile = s.profile := rfl

@[simp] theorem pull65_params (s : State) : (pull65 s).params = s.params := rfl

@[simp] theorem pull65_m6800 (s : State) : (pull65 s).m6800 = s.m6800 := rfl

@[simp] theorem pull65_pc (s : State) : (pull65 s).pc = s.pc := rfl

@[simp] theorem pull65_remaining (s : State) : (pull65 s).remaining = s.remaining := rfl

@[simp] theorem pull65_irqLine (s : State) : (pull65 s).irqLine = s.irqLine := rfl

@[simp] theorem pull65_nmiLine (s : State) : (pull65 s).nmiLine = s.nmiLine := rfl

@[simp] theorem pull65_nmiPending (s : State) : (pull65 s).nmiPending = s.nmiPending := rfl

@[simp] theorem pull65_haltLine (s : State) : (pull65 s).haltLine = s.haltLine := rfl

@[simp] theorem pull65_waiting (s : State) : (pull65 s).waiting = s.waiting := rfl

@[simp] theorem pull65_mem (s : State) : (pull65 s).mem = s.mem := rfl

@[simp] theorem pull65_draws (s : State) : (pull65 s).draws = s.draws := rfl

@[simp] theorem pull65_m6502 (s : State) : (pull65 s).m6502 = { s.m6502 with sp := s.m6502.sp + 1 } := rfl

/-! ### The M6800 stack -/

@[simp] theorem push68_profile (v : Byte) (s : State) : (push68 v s).profile = s.profile := rfl

@[simp] theorem push68_params (v : Byte) (s : State) : (push68 v s).params = s.params := rfl

@[simp] theorem push68_m6502 (v : Byte) (s : State) : (push68 v s).m6502 = s.m6502 := rfl

@[simp] theorem push68_pc (v : Byte) (s : State) : (push68 v s).pc = s.pc := rfl

@[simp] theorem push68_remaining (v : Byte) (s : State) : (push68 v s).remaining = s.remaining := rfl

@[simp] theorem push68_irqLine (v : Byte) (s : State) : (push68 v s).irqLine = s.irqLine := rfl

@[simp] theorem push68_nmiLine (v : Byte) (s : State) : (push68 v s).nmiLine = s.nmiLine := rfl

@[simp] theorem push68_nmiPending (v : Byte) (s : State) : (push68 v s).nmiPending = s.nmiPending := rfl

@[simp] theorem push68_haltLine (v : Byte) (s : State) : (push68 v s).haltLine = s.haltLine := rfl

@[simp] theorem push68_waiting (v : Byte) (s : State) : (push68 v s).waiting = s.waiting := rfl

@[simp] theorem push68_draws (v : Byte) (s : State) : (push68 v s).draws = s.draws := rfl

@[simp] theorem push68_m6800 (v : Byte) (s : State) : (push68 v s).m6800 = { s.m6800 with sp := s.m6800.sp - 1 } := rfl

@[simp] theorem push68_mem (v : Byte) (s : State) : (push68 v s).mem = memWrite s.mem s.m6800.sp.toNat v := rfl

/-! ### Pulling on the M6800 -/

@[simp] theorem pull68_profile (s : State) : (pull68 s).profile = s.profile := rfl

@[simp] theorem pull68_params (s : State) : (pull68 s).params = s.params := rfl

@[simp] theorem pull68_m6502 (s : State) : (pull68 s).m6502 = s.m6502 := rfl

@[simp] theorem pull68_pc (s : State) : (pull68 s).pc = s.pc := rfl

@[simp] theorem pull68_remaining (s : State) : (pull68 s).remaining = s.remaining := rfl

@[simp] theorem pull68_irqLine (s : State) : (pull68 s).irqLine = s.irqLine := rfl

@[simp] theorem pull68_nmiLine (s : State) : (pull68 s).nmiLine = s.nmiLine := rfl

@[simp] theorem pull68_nmiPending (s : State) : (pull68 s).nmiPending = s.nmiPending := rfl

@[simp] theorem pull68_haltLine (s : State) : (pull68 s).haltLine = s.haltLine := rfl

@[simp] theorem pull68_waiting (s : State) : (pull68 s).waiting = s.waiting := rfl

@[simp] theorem pull68_mem (s : State) : (pull68 s).mem = s.mem := rfl

@[simp] theorem pull68_draws (s : State) : (pull68 s).draws = s.draws := rfl

@[simp] theorem pull68_m6800 (s : State) : (pull68 s).m6800 = { s.m6800 with sp := s.m6800.sp + 1 } := rfl

/-! ### Going through a vector of the M6800 -/

@[simp] theorem vector68_profile (v : Word) (s : State) : (vector68 v s).profile = s.profile := rfl

@[simp] theorem vector68_params (v : Word) (s : State) : (vector68 v s).params = s.params := rfl

@[simp] theorem vector68_m6502 (v : Word) (s : State) : (vector68 v s).m6502 = s.m6502 := rfl

@[simp] theorem vector68_remaining (v : Word) (s : State) : (vector68 v s).remaining = s.remaining := rfl

@[simp] theorem vector68_irqLine (v : Word) (s : State) : (vector68 v s).irqLine = s.irqLine := rfl

@[simp] theorem vector68_nmiLine (v : Word) (s : State) : (vector68 v s).nmiLine = s.nmiLine := rfl

@[simp] theorem vector68_nmiPending (v : Word) (s : State) : (vector68 v s).nmiPending = s.nmiPending := rfl

@[simp] theorem vector68_haltLine (v : Word) (s : State) : (vector68 v s).haltLine = s.haltLine := rfl

@[simp] theorem vector68_waiting (v : Word) (s : State) : (vector68 v s).waiting = s.waiting := rfl

@[simp] theorem vector68_mem (v : Word) (s : State) : (vector68 v s).mem = s.mem := rfl

@[simp] theorem vector68_draws (v : Word) (s : State) : (vector68 v s).draws = s.draws := rfl

@[simp] theorem vector68_m6800 (v : Word) (s : State) : (vector68 v s).m6800 = { s.m6800 with i := true } := rfl

@[simp] theorem vector68_pc (v : Word) (s : State) : (vector68 v s).pc = s.readHighFirst v := rfl

/-! ### reset() -/

@[simp] theorem State.restart_profile (s : State) : (s.restart).profile = s.profile := rfl

@[simp] theorem State.restart_params (s : State) : (s.restart).params = s.params := rfl

@[simp] theorem State.restart_irqLine (s : State) : (s.restart).irqLine = s.irqLine := rfl

@[simp] theorem State.restart_nmiLine (s : State) : (s.restart).nmiLine = s.nmiLine := rfl

@[simp] theorem State.restart_haltLine (s : State) : (s.restart).haltLine = s.haltLine := rfl

@[simp] theorem State.restart_mem (s : State) : (s.restart).mem = s.mem := rfl

@[simp] theorem State.restart_draws (s : State) : (s.restart).draws = s.draws := rfl

@[simp] theorem State.restart_m6502 (s : State) : (s.restart).m6502 = Regs65.reset := rfl

@[simp] theorem State.restart_m6800 (s : State) : (s.restart).m6800 = Regs68.reset := rfl

@[simp] theorem State.restart_pc (s : State) : (s.restart).pc = resetPc s := rfl

@[simp] theorem State.restart_remaining (s : State) : (s.restart).remaining = 0 := rfl

@[simp] theorem State.restart_nmiPending (s : State) : (s.restart).nmiPending = false := rfl

@[simp] theorem State.restart_waiting (s : State) : (s.restart).waiting = false := rfl

/-! ### Clearing the NMI latch -/

@[simp] theorem State.acknowledge_profile (s : State) (k : Interrupt) : (s.acknowledge k).profile = s.profile := by
  cases k <;> rfl

@[simp] theorem State.acknowledge_params (s : State) (k : Interrupt) : (s.acknowledge k).params = s.params := by
  cases k <;> rfl

@[simp] theorem State.acknowledge_m6502 (s : State) (k : Interrupt) : (s.acknowledge k).m6502 = s.m6502 := by
  cases k <;> rfl

@[simp] theorem State.acknowledge_m6800 (s : State) (k : Interrupt) : (s.acknowledge k).m6800 = s.m6800 := by
  cases k <;> rfl

@[simp] theorem State.acknowledge_pc (s : State) (k : Interrupt) : (s.acknowledge k).pc = s.pc := by
  cases k <;> rfl

@[simp] theorem State.acknowledge_remaining (s : State) (k : Interrupt) : (s.acknowledge k).remaining = s.remaining := by
  cases k <;> rfl

@[simp] theorem State.acknowledge_irqLine (s : State) (k : Interrupt) : (s.acknowledge k).irqLine = s.irqLine := by
  cases k <;> rfl

@[simp] theorem State.acknowledge_nmiLine (s : State) (k : Interrupt) : (s.acknowledge k).nmiLine = s.nmiLine := by
  cases k <;> rfl

@[simp] theorem State.acknowledge_haltLine (s : State) (k : Interrupt) : (s.acknowledge k).haltLine = s.haltLine := by
  cases k <;> rfl

@[simp] theorem State.acknowledge_waiting (s : State) (k : Interrupt) : (s.acknowledge k).waiting = s.waiting := by
  cases k <;> rfl

@[simp] theorem State.acknowledge_mem (s : State) (k : Interrupt) : (s.acknowledge k).mem = s.mem := by
  cases k <;> rfl

@[simp] theorem State.acknowledge_draws (s : State) (k : Interrupt) : (s.acknowledge k).draws = s.draws := by
  cases k <;> rfl

/-! ### Pushing a word on the M6502 -/

@[simp] theorem push16At65_profile (w : Word) (s : State) : (push16At65 w s).profile = s.profile := by
  unfold push16At65; split <;> rfl

@[simp] theorem push16At65_params (w : Word) (s : State) : (push16At65 w s).params = s.params := by
  unfold push16At65; split <;> rfl

@[simp] theorem push16At65_m6800 (w : Word) (s : State) : (push16At65 w s).m6800 = s.m6800 := by
  unfold push16At65; split <;> rfl

@[simp] theorem push16At65_pc (w : Word) (s : State) : (push16At65 w s).pc = s.pc := by
  unfold push16At65; split <;> rfl

@[simp] theorem push16At65_remaining (w : Word) (s : State) : (push16At65 w s).remaining = s.remaining := by
  unfold push16At65; split <;> rfl

@[simp] theorem push16At65_irqLine (w : Word) (s : State) : (push16At65 w s).irqLine = s.irqLine := by
  unfold push16At65; split <;> rfl

@[simp] theorem push16At65_nmiLine (w : Word) (s : State) : (push16At65 w s).nmiLine = s.nmiLine := by
  unfold push16At65; split <;> rfl

@[simp] theorem push16At65_nmiPending (w : Word) (s : State) : (push16At65 w s).nmiPending = s.nmiPending := by
  unfold push16At65; split <;> rfl

@[simp] theorem push16At65_haltLine (w : Word) (s : State) : (push16At65 w s).haltLine = s.haltLine := by
  unfold push16At65; split <;> rfl

@[simp] theorem push16At65_waiting (w : Word) (s : State) : (push16At65 w s).waiting = s.waiting := by
  unfold push16At65; split <;> rfl

@[simp] theorem push16At65_draws (w : Word) (s : State) : (push16At65 w s).draws = s.draws := by
  unfold push16At65; split <;> rfl

@[simp] theorem push16At65_m6502 (w : Word) (s : State) :
    (push16At65 w s).m6502 = { s.m6502 with sp := s.m6502.sp - 1 - 1 } := by
  unfold push16At65; split <;> rfl

/-! ### Equality of states -/

/-- Two states with the same fields are the same state. -/
theorem State.eq_of_fields {s t : State} (hprofile : s.profile = t.profile) (hparams : s.params = t.params)
    (h65 : s.m6502 = t.m6502) (h68 : s.m6800 = t.m6800) (hpc : s.pc = t.pc) (hremaining : s.remaining = t.remaining)
    (hirq : s.irqLine = t.irqLine) (hnmi : s.nmiLine = t.nmiLine) (hpending : s.nmiPending = t.nmiPending)
    (hhalt : s.haltLine = t.haltLine) (hwaiting : s.waiting = t.waiting) (hmem : s.mem = t.mem)
    (hdraws : s.draws = t.draws) : s = t := by
  cases s
  cases t
  simp only at *
  subst_vars
  rfl

end Sys2Proof.Machine
end

