-- ==== Sys2Proof/Laws/Memory.lean ====
section
/-!
SUPPORT. The laws of memory: a read after a write, and the canonical form; then the same through a state's own reads and
through the vocabulary of Safety.lean.
-/

namespace Sys2Proof.Machine

/-! ### Reading after writing -/

theorem memRead_memInsert (m : Memory) (a b : Nat) (v : Byte) :
    memRead (memInsert m a v) b = if b = a then v else memRead m b := by
  induction m with
  | nil => simp only [memInsert, memRead, eq_comm]
  | cons c rest ih =>
    obtain ⟨k, w⟩ := c
    simp only [memInsert]
    split
    · simp only [memRead, eq_comm (a := a)]
    · split
      · subst a
        simp only [memRead, eq_comm (a := k)]
        split <;> simp_all
      · simp only [memRead, ih]
        split <;> split <;> simp_all

theorem memRead_memErase (m : Memory) (a b : Nat) :
    memRead (memErase m a) b = if b = a then unlistedByte else memRead m b := by
  induction m with
  | nil => simp [memErase, memRead]
  | cons c rest ih =>
    obtain ⟨k, w⟩ := c
    simp only [memErase]
    split
    · subst k
      simp only [ih, memRead, eq_comm (a := a)]
      split <;> simp_all
    · simp only [memRead, ih]
      split <;> split <;> simp_all

/-- A write changes the byte written and no other. -/
theorem memRead_memWrite (m : Memory) (a b : Nat) (v : Byte) :
    memRead (memWrite m a v) b = if b = a then v else memRead m b := by
  unfold memWrite
  split
  · simp [memRead_memErase, *]
  · exact memRead_memInsert m a b v

/-! ### The canonical form -/

theorem memWfFrom_weaken {lo lo' : Nat} (h : lo' ≤ lo) (m : Memory) (hm : memWfFrom lo m = true) :
    memWfFrom lo' m = true := by
  cases m with
  | nil => rfl
  | cons c rest =>
    simp only [memWfFrom, Bool.and_eq_true, decide_eq_true_eq] at hm ⊢
    exact ⟨⟨⟨by omega, hm.1.1.2⟩, hm.1.2⟩, hm.2⟩

theorem memWfFrom_memErase (m : Memory) (a lo : Nat) (hm : memWfFrom lo m = true) :
    memWfFrom lo (memErase m a) = true := by
  induction m generalizing lo with
  | nil => rfl
  | cons c rest ih =>
    obtain ⟨k, w⟩ := c
    simp only [memWfFrom, Bool.and_eq_true, decide_eq_true_eq] at hm
    simp only [memErase]
    split
    · exact memWfFrom_weaken (by omega) _ (ih _ hm.2)
    · simp only [memWfFrom, Bool.and_eq_true, decide_eq_true_eq]
      exact ⟨hm.1, ih _ hm.2⟩

theorem memWfFrom_memInsert (m : Memory) (a lo : Nat) (v : Byte) (hlo : lo ≤ a) (ha : a < 65536) (hv : v ≠ unlistedByte)
    (hm : memWfFrom lo m = true) : memWfFrom lo (memInsert m a v) = true := by
  induction m generalizing lo with
  | nil => simp [memInsert, memWfFrom, *]
  | cons c rest ih =>
    obtain ⟨k, w⟩ := c
    simp only [memWfFrom, Bool.and_eq_true, decide_eq_true_eq] at hm
    simp only [memInsert]
    split
    · simp only [memWfFrom, Bool.and_eq_true, decide_eq_true_eq]
      exact ⟨⟨⟨hlo, ha⟩, hv⟩, ⟨⟨by omega, hm.1.1.2⟩, hm.1.2⟩, hm.2⟩
    · split
      · subst a
        simp only [memWfFrom, Bool.and_eq_true, decide_eq_true_eq]
        exact ⟨⟨⟨hlo, ha⟩, hv⟩, hm.2⟩
      · simp only [memWfFrom, Bool.and_eq_true, decide_eq_true_eq]
        exact ⟨hm.1, ih _ (by omega) hm.2⟩

/-- A write inside the address space keeps the canonical form. -/
theorem memWf_memWrite (m : Memory) (a : Nat) (v : Byte) (ha : a < 65536) (hm : memWf m = true) :
    memWf (memWrite m a v) = true := by
  unfold memWrite memWf at *
  split
  · exact memWfFrom_memErase m a 0 hm
  · exact memWfFrom_memInsert m a 0 v (Nat.zero_le _) ha ‹_› hm

/-- Memory after reset is in canonical form. -/
theorem memWf_reset : memWf State.reset.mem = true := rfl

/-! ### Reads of a state -/

theorem readByte_writeByte (s : State) (a b : Word) (v : Byte) :
    (s.writeByte a v).readByte b = if b = a then v else s.readByte b := by
  simp only [State.readByte, State.writeByte, memRead_memWrite, BitVec.toNat_inj]

theorem readByte_writeHighFirst (s : State) (a b w : Word) :
    (s.writeHighFirst a w).readByte b = if b = a + 1 then lo w else if b = a then hi w else s.readByte b := by
  simp only [State.writeHighFirst, readByte_writeByte]

/-- A read of a byte depends on memory alone. -/
theorem readByte_congr {s t : State} (h : t.mem = s.mem) (a : Word) : t.readByte a = s.readByte a := by
  simp only [State.readByte, h]

@[simp] theorem readByte_advance (s : State) (n : Nat) (a : Word) : (s.advance n).readByte a = s.readByte a := rfl

@[simp] theorem readByte_charge (s : State) (n : Nat) (a : Word) : (s.charge n).readByte a = s.readByte a := rfl

@[simp] theorem readByte_pull65 (s : State) (a : Word) : (pull65 s).readByte a = s.readByte a := rfl

@[simp] theorem readByte_pull68 (s : State) (a : Word) : (pull68 s).readByte a = s.readByte a := rfl

theorem readByte_push65 (v : Byte) (s : State) (a : Word) :
    (push65 v s).readByte a = if a = stackAddr65 s.m6502.sp then v else s.readByte a := by
  rw [← readByte_writeByte]
  rfl

theorem readByte_push68 (v : Byte) (s : State) (a : Word) :
    (push68 v s).readByte a = if a = s.m6800.sp then v else s.readByte a := by
  rw [← readByte_writeByte]
  rfl

theorem memWf_writeByte (s : State) (a : Word) (v : Byte) (h : memWf s.mem = true) :
    memWf (s.writeByte a v).mem = true := memWf_memWrite s.mem a.toNat v a.isLt h

theorem memWf_writeHighFirst (s : State) (a w : Word) (h : memWf s.mem = true) :
    memWf (s.writeHighFirst a w).mem = true := memWf_writeByte _ _ _ (memWf_writeByte _ _ _ h)

theorem memWf_push65 (v : Byte) (s : State) (h : memWf s.mem = true) : memWf (push65 v s).mem = true :=
  memWf_writeByte s _ v h

theorem memWf_push68 (v : Byte) (s : State) (h : memWf s.mem = true) : memWf (push68 v s).mem = true :=
  memWf_writeByte s _ v h

theorem memWf_push16At65 (w : Word) (s : State) (h : memWf s.mem = true) : memWf (push16At65 w s).mem = true := by
  unfold push16At65
  split <;> exact memWf_push65 _ _ (memWf_push65 _ _ h)

theorem memWf_push16At68 (w : Word) (s : State) (h : memWf s.mem = true) : memWf (push16At68 w s).mem = true :=
  memWf_push68 _ _ (memWf_push68 _ _ h)

theorem memWf_pushFrame65 (w : Word) (b : Bool) (s : State) (h : memWf s.mem = true) :
    memWf (pushFrame65 w b s).mem = true := memWf_push65 _ _ (memWf_push16At65 _ _ h)

theorem memWf_pushFrame68 (s : State) (h : memWf s.mem = true) : memWf (pushFrame68 s).mem = true :=
  memWf_push68 _ _ (memWf_push68 _ _ (memWf_push68 _ _ (memWf_push16At68 _ _ (memWf_push16At68 _ _ h))))

/-! ### Writes in the vocabulary of Safety.lean -/

/-- Nothing was written where memory is the same. -/
theorem wrote_nil_of_mem {s t : State} (h : t.mem = s.mem) : Wrote s t [] := fun a => readByte_congr h a

/-- What was written depends on memory alone. -/
theorem wrote_congr {s t u : State} {writes : List (Word × Byte)} (h : Wrote s t writes) (hu : u.mem = t.mem) :
    Wrote s u writes := fun a => (readByte_congr hu a).trans (h a)

/-- A write added to a list of writes: the latest one decides its own address. -/
theorem wrote_cons {s t u : State} {writes : List (Word × Byte)} (h : Wrote s t writes) (a : Word) (v : Byte)
    (hu : u.mem = (t.writeByte a v).mem) : Wrote s u ((a, v) :: writes) := by
  intro b
  rw [readByte_congr hu, readByte_writeByte]
  simp only [bytesAfter]
  split
  · rfl
  · exact h b

end Sys2Proof.Machine
end

