-- ==== Sys2Proof/Laws/Run.lean ====
section
/-!
SUPPORT. What each shared operation can do, said once: `run`, and the shapes of instruction built on it. A proof about an
instruction cites its shape's lemma, giving the first hypothesis as the meaning's own unfolding, for example
`show execM6502Tax s = _ from rfl`, and unfolds nothing else.
-/

namespace Sys2Proof.Machine

/-! ### The frame of an instruction -/

/-- `run` on an engine of the instruction's profile. -/
theorem run_of_profile {i : Instr} {extra : Nat} {body : State → State} {s : State} (h : s.profile = i.profile) :
    run i extra body s = .next ((body (s.advance i.size)).charge (s.cyclesOf i + extra)) := if_pos h

/-- Everything `run` can do. -/
theorem run_cases (i : Instr) (extra : Nat) (body : State → State) (s : State) :
    (s.profile = i.profile ∧ run i extra body s = .next ((body (s.advance i.size)).charge (s.cyclesOf i + extra))) ∨
    (s.profile ≠ i.profile ∧ run i extra body s = .refused .profileMismatch) := by
  by_cases h : s.profile = i.profile
  · exact .inl ⟨h, if_pos h⟩
  · exact .inr ⟨h, if_neg h⟩

/-- Where `run` answers a next state. -/
theorem run_eq_next {i : Instr} {extra : Nat} {body : State → State} {s t : State}
    (h : run i extra body s = .next t) :
    s.profile = i.profile ∧ t = (body (s.advance i.size)).charge (s.cyclesOf i + extra) := by
  obtain ⟨hp, e⟩ | ⟨-, e⟩ := run_cases i extra body s
  · rw [e] at h
    exact ⟨hp, (Host.Outcome.next.inj h).symm⟩
  · rw [e] at h
    cases h

theorem run_ne_fault (i : Instr) (extra : Nat) (body : State → State) (s : State) (f : Fault) :
    run i extra body s ≠ .fault f := by
  obtain ⟨-, e⟩ | ⟨-, e⟩ := run_cases i extra body s <;> simp [e]

/-- The bridge from `run` to the vocabulary of claims, M6502. -/
theorem runs65_of_run {i : Instr} {s : State} {extra : Nat} {body : State → State} {r : Regs65} {pc : Word}
    {writes : List (Word × Byte)} (he : exec i s = run i extra body s) (hp : s.profile = i.profile)
    (hw : Wrote s (body (s.advance i.size)) writes)
    (hb : body (s.advance i.size) =
      { s with m6502 := r, pc := pc, mem := (body (s.advance i.size)).mem }) :
    Runs65 i s r pc writes (s.cyclesOf i + extra) := by
  refine ⟨_, he.trans (run_of_profile hp), hw, ?_⟩
  rw [hb]
  rfl

/-- The same for an instruction with no extra cycle. -/
theorem runs65_of_run0 {i : Instr} {s : State} {body : State → State} {r : Regs65} {pc : Word}
    {writes : List (Word × Byte)} (he : exec i s = run i 0 body s) (hp : s.profile = i.profile)
    (hw : Wrote s (body (s.advance i.size)) writes)
    (hb : body (s.advance i.size) =
      { s with m6502 := r, pc := pc, mem := (body (s.advance i.size)).mem }) :
    Runs65 i s r pc writes (s.cyclesOf i) := runs65_of_run he hp hw hb

/-- The bridge from `run` to the vocabulary of claims, M6800. -/
theorem runs68_of_run {i : Instr} {s : State} {extra : Nat} {body : State → State} {r : Regs68} {pc : Word}
    {writes : List (Word × Byte)} (he : exec i s = run i extra body s) (hp : s.profile = i.profile)
    (hw : Wrote s (body (s.advance i.size)) writes)
    (hb : body (s.advance i.size) =
      { s with m6800 := r, pc := pc, mem := (body (s.advance i.size)).mem }) :
    Runs68 i s r pc writes (s.cyclesOf i + extra) := by
  refine ⟨_, he.trans (run_of_profile hp), hw, ?_⟩
  rw [hb]
  rfl

/-- The same for an instruction with no extra cycle. -/
theorem runs68_of_run0 {i : Instr} {s : State} {body : State → State} {r : Regs68} {pc : Word}
    {writes : List (Word × Byte)} (he : exec i s = run i 0 body s) (hp : s.profile = i.profile)
    (hw : Wrote s (body (s.advance i.size)) writes)
    (hb : body (s.advance i.size) =
      { s with m6800 := r, pc := pc, mem := (body (s.advance i.size)).mem }) :
    Runs68 i s r pc writes (s.cyclesOf i) := runs68_of_run he hp hw hb

/-! ### Operands are read in the state before the instruction -/

@[simp] theorem zpPointer_advance (s : State) (n : Nat) (p : Byte) : zpPointer (s.advance n) p = zpPointer s p := rfl

@[simp] theorem Ea65.addr_advance (s : State) (n : Nat) (ea : Ea65) : ea.addr (s.advance n) = ea.addr s := by
  cases ea <;> rfl

@[simp] theorem Src65.value_advance (s : State) (n : Nat) (src : Src65) : src.value (s.advance n) = src.value s := by
  cases src <;> simp [Src65.value]

@[simp] theorem Ea68.addr_advance (s : State) (n : Nat) (ea : Ea68) : ea.addr (s.advance n) = ea.addr s := by
  cases ea <;> rfl

@[simp] theorem Src68.value_advance (s : State) (n : Nat) (src : Src68) : src.value (s.advance n) = src.value s := by
  cases src <;> simp [Src68.value]

@[simp] theorem Src68W.value_advance (s : State) (n : Nat) (src : Src68W) : src.value (s.advance n) = src.value s := by
  cases src <;> simp [Src68W.value, State.readHighFirst]

/-! ### Shapes of M6502 instructions -/

/-- An instruction of the shape `regs65`: the register file only. -/
theorem regs65_plain {i : Instr} {s : State} {f : Regs65 → Regs65} {r : Regs65} (he : exec i s = regs65 i f s)
    (hp : s.profile = i.profile) (hr : f s.m6502 = r) : Plain65 i s r [] 0 := by
  subst hr
  exact runs65_of_run he hp (wrote_nil_of_mem rfl) rfl

/-- An instruction of the shape `read65`: one operand, the register file only. -/
theorem read65_plain {i : Instr} {s : State} {src : Src65} {f : Byte → Regs65 → Regs65} {r : Regs65}
    (he : exec i s = read65 i src f s) (hp : s.profile = i.profile) (hr : f (src.value s) s.m6502 = r) :
    Plain65 i s r [] (src.penalty s) := by
  subst hr
  exact runs65_of_run he hp (wrote_nil_of_mem rfl) (by simp only [Src65.value_advance]; rfl)

/-- An instruction of the shape `store65`: one byte at the effective address, no register. -/
theorem store65_plain {i : Instr} {s : State} {ea : Ea65} {value : Regs65 → Byte}
    (he : exec i s = store65 i ea value s) (hp : s.profile = i.profile) :
    Plain65 i s s.m6502 [(ea.addr s, value s.m6502)] 0 :=
  runs65_of_run he hp
    (wrote_cons (t := s.advance i.size) (wrote_nil_of_mem rfl) _ _ (by simp only [Ea65.addr_advance]; rfl)) rfl

/-- A read-modify-write of the accumulator. -/
theorem rmw65_acc_plain {i : Instr} {s : State} {f : Byte → Regs65 → Byte × Regs65} {r : Regs65}
    (he : exec i s = rmw65 i .acc f s) (hp : s.profile = i.profile)
    (hr : { (f s.m6502.a s.m6502).2 with a := (f s.m6502.a s.m6502).1 } = r) : Plain65 i s r [] 0 := by
  subst hr
  exact runs65_of_run he hp (wrote_nil_of_mem rfl) rfl

/-- A read-modify-write of memory: one byte at the effective address. -/
theorem rmw65_mem_plain {i : Instr} {s : State} {ea : Ea65} {f : Byte → Regs65 → Byte × Regs65} {r : Regs65} {v : Byte}
    (he : exec i s = rmw65 i (.mem ea) f s) (hp : s.profile = i.profile)
    (hr : f (s.readByte (ea.addr s)) s.m6502 = (v, r)) : Plain65 i s r [(ea.addr s, v)] 0 := by
  refine runs65_of_run he hp
    (wrote_cons (t := s.advance i.size) (wrote_nil_of_mem rfl) _ _ ?_) ?_ <;>
    simp only [rmwBody65, Ea65.addr_advance, readByte_advance, State.advance_m6502, hr]; rfl

/-- A read-modify-write instruction in any mode of the shifts, by what its primitive does in numbers. -/
theorem shift65_of_rmw65 {i : Instr} {m : Mode65.Shift} {p : Byte → Regs65 → Byte × Regs65} {f : Nat → Nat → Nat}
    {carry : Nat → Bool} {s : State} (he : exec i s = rmw65 i (dstOfShift m) p s) (hp : s.profile = i.profile)
    (hf : ∀ x r, p x r = (BitVec.ofNat 8 (f x.toNat (bit r.c)),
      { r with
        c := carry x.toNat, z := zeroOf (f x.toNat (bit r.c)), n := negativeOf (f x.toNat (bit r.c)) })) :
    Shift65 i s m f carry := by
  unfold Shift65
  split <;> rename_i h <;> rw [h] at he
  · exact rmw65_acc_plain he hp (by rw [hf])
  · exact rmw65_mem_plain he hp (by rw [hf])

/-- The address after a two-byte instruction, moved by a signed offset. -/
theorem relTarget_next (pc : Word) (off : Byte) :
    relTarget (pc + 2#16) off = BitVec.ofInt 16 (pc.toNat + 2 + off.toInt) := by
  rw [relTarget_eq]
  apply BitVec.eq_of_toNat_eq
  rw [BitVec.toNat_ofInt, BitVec.toNat_ofInt, BitVec.toNat_add, show (2#16).toNat = 2 from rfl]
  omega

/-- The extra cycles of a taken branch are 2 exactly where the pages differ (45_m6502_control.md R250). -/
theorem takenExtra_eq (next target : Word) :
    takenExtra next target = if target.toNat / 256 = next.toNat / 256 then 1 else 2 := by
  unfold takenExtra
  simp only [ne_eq, ← BitVec.toNat_inj, hi_toNat, ite_not]

/-- A conditional branch of the M6502. -/
theorem branch65_of {i : Instr} {s : State} {off : Byte} {cond : Regs65 → Bool}
    (he : exec i s = branch65 i off cond s) (hp : s.profile = i.profile) (hs : i.size = 2) :
    Branch65 i s off (cond s.m6502) := by
  have hn : (s.advance i.size).pc = s.pc + 2#16 := by rw [hs]; rfl
  unfold branch65 at he
  simp only [hn, relTarget_next, takenExtra_eq] at he
  by_cases hc : cond s.m6502 = true <;>
  · refine runs65_of_run he hp (wrote_nil_of_mem ?_) ?_ <;> simp [hc, hs, State.advance, relTarget_next]

/-! ### Shapes of M6800 instructions -/

/-- An instruction of the shape `regs68`: the register file only. -/
theorem regs68_plain {i : Instr} {s : State} {f : Regs68 → Regs68} {r : Regs68} (he : exec i s = regs68 i f s)
    (hp : s.profile = i.profile) (hr : f s.m6800 = r) : Plain68 i s r [] := by
  subst hr
  exact runs68_of_run he hp (wrote_nil_of_mem rfl) rfl

/-- An instruction of the shape `read68`: one byte operand, the register file only. -/
theorem read68_plain {i : Instr} {s : State} {src : Src68} {f : Byte → Regs68 → Regs68} {r : Regs68}
    (he : exec i s = read68 i src f s) (hp : s.profile = i.profile) (hr : f (src.value s) s.m6800 = r) :
    Plain68 i s r [] := by
  subst hr
  exact runs68_of_run he hp (wrote_nil_of_mem rfl) (by simp only [Src68.value_advance]; rfl)

/-- An instruction of the shape `read68W`: one word operand, the register file only. -/
theorem read68W_plain {i : Instr} {s : State} {src : Src68W} {f : Word → Regs68 → Regs68} {r : Regs68}
    (he : exec i s = read68W i src f s) (hp : s.profile = i.profile) (hr : f (src.value s) s.m6800 = r) :
    Plain68 i s r [] := by
  subst hr
  exact runs68_of_run he hp (wrote_nil_of_mem rfl) (by simp only [Src68W.value_advance]; rfl)

/-- An instruction of the shape `store68`: one byte at the effective address, and N, Z, V. -/
theorem store68_plain {i : Instr} {s : State} {ea : Ea68} {value : Regs68 → Byte} {r : Regs68}
    (he : exec i s = store68 i ea value s) (hp : s.profile = i.profile) (hr : nzv0 (value s.m6800) s.m6800 = r) :
    Plain68 i s r [(ea.addr s, value s.m6800)] := by
  subst hr
  exact runs68_of_run he hp
    (wrote_cons (t := s.advance i.size) (wrote_nil_of_mem rfl) _ _ (by simp only [Ea68.addr_advance]; rfl)) rfl

/-- An instruction of the shape `store68W`: two bytes from the effective address on, high byte first, and N, Z, V. -/
theorem store68W_plain {i : Instr} {s : State} {ea : Ea68} {value : Regs68 → Word} {r : Regs68}
    (he : exec i s = store68W i ea value s) (hp : s.profile = i.profile) (hr : nzv0Word (value s.m6800) s.m6800 = r) :
    Plain68 i s r [(ea.addr s + 1, lo (value s.m6800)), (ea.addr s, hi (value s.m6800))] := by
  subst hr
  exact runs68_of_run he hp
    (wrote_cons (wrote_cons (t := s.advance i.size) (wrote_nil_of_mem rfl) (ea.addr s) (hi (value s.m6800)) rfl) _ _
      (by simp only [Ea68.addr_advance]; rfl)) rfl

/-- A single-operand instruction on accumulator A. -/
theorem rmw68_accA_plain {i : Instr} {s : State} {f : Byte → Regs68 → Byte × Regs68} {r : Regs68}
    (he : exec i s = rmw68 i .accA f s) (hp : s.profile = i.profile)
    (hr : { (f s.m6800.a s.m6800).2 with a := (f s.m6800.a s.m6800).1 } = r) : Plain68 i s r [] := by
  subst hr
  exact runs68_of_run he hp (wrote_nil_of_mem rfl) rfl

/-- A single-operand instruction on accumulator B. -/
theorem rmw68_accB_plain {i : Instr} {s : State} {f : Byte → Regs68 → Byte × Regs68} {r : Regs68}
    (he : exec i s = rmw68 i .accB f s) (hp : s.profile = i.profile)
    (hr : { (f s.m6800.b s.m6800).2 with b := (f s.m6800.b s.m6800).1 } = r) : Plain68 i s r [] := by
  subst hr
  exact runs68_of_run he hp (wrote_nil_of_mem rfl) rfl

/-- A single-operand instruction on memory: one byte at the effective address. -/
theorem rmw68_mem_plain {i : Instr} {s : State} {ea : Ea68} {f : Byte → Regs68 → Byte × Regs68} {r : Regs68} {v : Byte}
    (he : exec i s = rmw68 i (.mem ea) f s) (hp : s.profile = i.profile)
    (hr : f (s.readByte (ea.addr s)) s.m6800 = (v, r)) : Plain68 i s r [(ea.addr s, v)] := by
  refine runs68_of_run he hp
    (wrote_cons (t := s.advance i.size) (wrote_nil_of_mem rfl) _ _ ?_) ?_ <;>
    simp only [rmwBody68, Ea68.addr_advance, readByte_advance, State.advance_m6800, hr]; rfl

/-- A single-operand mnemonic whose three spellings are the shape `rmw68` of one primitive `p`. -/
theorem singleOperand_of_rmw68 {onA onB : Instr} {onMem : Mode68.Mem → Instr} {p : Byte → Regs68 → Byte × Regs68}
    {f : Byte → Regs68 → Byte} {g : Byte → Regs68 → Regs68} (ha : ∀ s, exec onA s = rmw68 onA .accA p s)
    (hb : ∀ s, exec onB s = rmw68 onB .accB p s)
    (hm : ∀ m s, exec (onMem m) s = rmw68 (onMem m) (.mem (eaOfMem m)) p s) (pa : onA.profile = .m6800)
    (pb : onB.profile = .m6800) (pm : ∀ m, (onMem m).profile = .m6800) (hp : ∀ x r, p x r = (f x r, g x r)) :
    SingleOperand onA onB onMem f g := by
  intro s h
  refine ⟨rmw68_accA_plain (ha s) (h.trans pa.symm) ?_, rmw68_accB_plain (hb s) (h.trans pb.symm) ?_, fun m =>
    rmw68_mem_plain (hm m s) (h.trans (pm m).symm) (hp _ _)⟩ <;> rw [hp]

/-- A branch of the M6800. -/
theorem branch68_of {i : Instr} {s : State} {off : Byte} {cond : Regs68 → Bool}
    (he : exec i s = branch68 i off cond s) (hp : s.profile = i.profile) (hs : i.size = 2) :
    Branch68 i s off (cond s.m6800) := by
  unfold branch68 at he
  by_cases hc : cond s.m6800 = true <;>
  · refine runs68_of_run he hp (wrote_nil_of_mem ?_) ?_ <;> simp [hc, hs, State.advance, relTarget_next]

end Sys2Proof.Machine
end

