-- ==== Sys2Proof/Laws/Stack.lean ====
section
/-!
SUPPORT. What the stack operations, the frames and the entries do: the bytes they write, and everything else they leave.
-/

namespace Sys2Proof.Machine

/-! ### M6502 -/

theorem wrote_push65 {s t : State} {writes : List (Word × Byte)} (h : Wrote s t writes) (v : Byte) :
    Wrote s (push65 v t) ((stackAddr65 t.m6502.sp, v) :: writes) := wrote_cons h _ _ rfl

theorem wrote_push16At65 {s t : State} {writes : List (Word × Byte)} (h : Wrote s t writes) (w : Word) :
    Wrote s (push16At65 w t) (pushedWord65 t.params.stackOrder t.m6502.sp w ++ writes) := by
  unfold push16At65 pushedWord65
  cases t.params.stackOrder <;> exact wrote_push65 (wrote_push65 h _) _

theorem wrote_pushFrame65 {s t : State} {writes : List (Word × Byte)} (h : Wrote s t writes) (pc : Word) (b : Bool) :
    Wrote s (pushFrame65 pc b t)
      (frameWrites65 t.params.stackOrder t.m6502.sp pc (frameStatus65 t.m6502 b) ++ writes) := by
  have := wrote_push65 (wrote_push16At65 h pc) (frameStatus65 t.m6502 b)
  rw [push16At65_m6502, BitVec.sub_sub] at this
  exact this

/-- What a pushed word leaves on the M6502: memory and SP. -/
theorem push16At65_eq (w : Word) (s : State) :
    push16At65 w s = { s with mem := (push16At65 w s).mem, m6502 := { s.m6502 with sp := s.m6502.sp - 2 } } := by
  have e : s.m6502.sp - 1 - 1 = s.m6502.sp - 2 := by rw [BitVec.sub_sub]; rfl
  unfold push16At65
  rw [← e]
  split <;> rfl

/-- The word pulled on the M6502 is the stacked one. -/
theorem pulled16At65_eq (s : State) : pulled16At65 s = stackedWord65 s s.m6502.sp := by
  have e : s.m6502.sp + 1 + 1 = s.m6502.sp + 2 := by rw [BitVec.add_assoc]; rfl
  unfold pulled16At65 stackedWord65
  cases s.params.stackOrder <;> simp only [pulled65, pull65_m6502, readByte_pull65, e]

/-- What a pushed M6502 frame leaves: memory and SP. -/
theorem pushFrame65_eq (pc : Word) (b : Bool) (s : State) :
    pushFrame65 pc b s =
      { s with mem := (pushFrame65 pc b s).mem, m6502 := { s.m6502 with sp := s.m6502.sp - 3 } } := by
  have e : s.m6502.sp - 1 - 1 - 1 = s.m6502.sp - 3 := by rw [BitVec.sub_sub, BitVec.sub_sub]; rfl
  unfold pushFrame65 push16At65
  rw [← e]
  split <;> rfl

/-- Everything `enter65` does. -/
theorem enter65_eq (pc : Word) (b : Bool) (vector : Word) (s : State) :
    enter65 pc b vector s =
      { s with
        mem := (pushFrame65 pc b s).mem
        m6502 := { s.m6502 with sp := s.m6502.sp - 3, i := true }
        pc := (pushFrame65 pc b s).readLowFirst vector } := by
  have h := pushFrame65_eq pc b s
  unfold enter65
  generalize pushFrame65 pc b s = t at h
  rw [h]

/-- An entry's vector is read outside the stack page, so the frame does not change it. -/
theorem readByte_pushFrame65 (pc : Word) (b : Bool) (s : State) (a : Word) (ha : 512 ≤ a.toNat) :
    (pushFrame65 pc b s).readByte a = s.readByte a := by
  have h := wrote_pushFrame65 (s := s) (t := s) (wrote_nil_of_mem rfl) pc b a
  rw [h]
  simp only [frameWrites65, pushedWord65]
  split <;> simp [bytesAfter, ne_stackAddr65 _ ha]

/-- Everything `pullFrame65` does. -/
theorem pullFrame65_eq (s : State) :
    pullFrame65 s =
      { s with
        m6502 := { setP s.m6502 (s.readByte (stackAddr65 (s.m6502.sp + 1))) with sp := s.m6502.sp + 3 }
        pc := stackedWord65 s (s.m6502.sp + 1) } := by
  have e : s.m6502.sp + 1 + 1 + 1 = s.m6502.sp + 3 := by rw [BitVec.add_assoc, BitVec.add_assoc]; rfl
  unfold pullFrame65
  simp only [pulled16At65_eq]
  unfold stackedWord65
  rw [← e]
  rfl

@[simp] theorem pullFrame65_mem (s : State) : (pullFrame65 s).mem = s.mem := by
  rw [pullFrame65_eq]

/-! ### M6800 -/

theorem wrote_push68 {s t : State} {writes : List (Word × Byte)} (h : Wrote s t writes) (v : Byte) :
    Wrote s (push68 v t) ((t.m6800.sp, v) :: writes) := wrote_cons h _ _ rfl

theorem wrote_push16At68 {s t : State} {writes : List (Word × Byte)} (h : Wrote s t writes) (w : Word) :
    Wrote s (push16At68 w t) ((t.m6800.sp - 1, hi w) :: (t.m6800.sp, lo w) :: writes) :=
  wrote_push68 (wrote_push68 h _) _

theorem wrote_pushFrame68 {s t : State} {writes : List (Word × Byte)} (h : Wrote s t writes) :
    Wrote s (pushFrame68 t) (frameWrites68 t.m6800 t.pc ++ writes) := by
  have := wrote_push68 (wrote_push68 (wrote_push68 (wrote_push16At68 (wrote_push16At68 h t.pc) t.m6800.ix) t.m6800.a)
    t.m6800.b) (getCC t.m6800)
  simp only [push16At68, push68_m6800, BitVec.sub_sub] at this
  exact this

/-- What a pushed word leaves on the M6800: memory and SP. -/
theorem push16At68_eq (w : Word) (s : State) :
    push16At68 w s = { s with mem := (push16At68 w s).mem, m6800 := { s.m6800 with sp := s.m6800.sp - 2 } } := by
  have e : s.m6800.sp - 1 - 1 = s.m6800.sp - 2 := by rw [BitVec.sub_sub]; rfl
  rw [← e]
  rfl

/-- What a pushed M6800 frame leaves: memory and SP. -/
theorem pushFrame68_eq (s : State) :
    pushFrame68 s = { s with mem := (pushFrame68 s).mem, m6800 := { s.m6800 with sp := s.m6800.sp - 7 } } := by
  have e : s.m6800.sp - 1 - 1 - 1 - 1 - 1 - 1 - 1 = s.m6800.sp - 7 := by simp only [BitVec.sub_sub]; rfl
  apply State.eq_of_fields <;> simp only [pushFrame68, push16At68, push68_profile, push68_params, push68_m6502,
    push68_m6800, push68_pc, push68_remaining, push68_irqLine, push68_nmiLine, push68_nmiPending, push68_haltLine,
    push68_waiting, push68_draws, e]

/-- Everything `enter68` does. -/
theorem enter68_eq (vector : Word) (s : State) :
    enter68 vector s =
      { s with
        mem := (pushFrame68 s).mem
        m6800 := { s.m6800 with sp := s.m6800.sp - 7, i := true }
        pc := (pushFrame68 s).readHighFirst vector } := by
  have h := pushFrame68_eq s
  unfold enter68 vector68
  generalize pushFrame68 s = t at h
  rw [h]

/-- Everything `pullFrame68` does. -/
theorem pullFrame68_eq (s : State) :
    pullFrame68 s =
      let stacked (k : Nat) : Byte := s.readByte (s.m6800.sp + BitVec.ofNat 16 k)
      { s with
        m6800 :=
          { setCC s.m6800 (stacked 1) with
            b := stacked 2, a := stacked 3, ix := w16 (stacked 4) (stacked 5), sp := s.m6800.sp + 7 }
        pc := w16 (stacked 6) (stacked 7) } := by
  have e2 : s.m6800.sp + 1 + 1 = s.m6800.sp + BitVec.ofNat 16 2 := by rw [BitVec.add_assoc]; rfl
  have e3 : s.m6800.sp + BitVec.ofNat 16 2 + 1 = s.m6800.sp + BitVec.ofNat 16 3 := by rw [BitVec.add_assoc]; rfl
  have e4 : s.m6800.sp + BitVec.ofNat 16 3 + 1 = s.m6800.sp + BitVec.ofNat 16 4 := by rw [BitVec.add_assoc]; rfl
  have e5 : s.m6800.sp + BitVec.ofNat 16 4 + 1 = s.m6800.sp + BitVec.ofNat 16 5 := by rw [BitVec.add_assoc]; rfl
  have e6 : s.m6800.sp + BitVec.ofNat 16 5 + 1 = s.m6800.sp + BitVec.ofNat 16 6 := by rw [BitVec.add_assoc]; rfl
  have e7 : s.m6800.sp + BitVec.ofNat 16 6 + 1 = s.m6800.sp + BitVec.ofNat 16 7 := by rw [BitVec.add_assoc]; rfl
  simp only [pullFrame68, pulled16At68, pull16At68, pulled68, pull68, setCC, State.readByte, e2, e3, e4, e5, e6, e7]
  rfl

@[simp] theorem pullFrame68_mem (s : State) : (pullFrame68 s).mem = s.mem := by
  rw [pullFrame68_eq]

end Sys2Proof.Machine
end

