-- ==== Sys2Proof/Laws/Exec.lean ====
section
/-!
SUPPORT. What any instruction can do, said once for all of them: `exec` is `run` of a body that keeps the pins, the
parameters, the other profile's register file and the canonical form of memory, with at most two extra cycles on the M6502
and none on the M6800.
-/

namespace Sys2Proof.Machine

/-- What the body of an instruction of profile `p` leaves of a state. -/
structure Keeps (p : Profile) (s t : State) : Prop where
  profile : t.profile = s.profile
  params : t.params = s.params
  irqLine : t.irqLine = s.irqLine
  nmiLine : t.nmiLine = s.nmiLine
  nmiPending : t.nmiPending = s.nmiPending
  haltLine : t.haltLine = s.haltLine
  m6800 : p = .m6502 → t.m6800 = s.m6800
  waiting : p = .m6502 → t.waiting = s.waiting
  m6502 : p = .m6800 → t.m6502 = s.m6502
  memWf : memWf s.mem = true → memWf t.mem = true

/-- `o` is `run` of `i` on `s`, by a body that keeps what an instruction keeps. -/
def ExecRuns (i : Instr) (s : State) (o : Result) : Prop :=
  ∃ extra body, o = run i extra body s ∧ extra ≤ 2 ∧ (i.profile = .m6800 → extra = 0) ∧ ∀ t, Keeps i.profile t (body t)

/-- A body that changes registers and PC of the M6502 only. -/
theorem Keeps.of65 {s : State} (r : Regs65) (pc : Word) : Keeps .m6502 s { s with m6502 := r, pc := pc } where
  profile := rfl
  params := rfl
  irqLine := rfl
  nmiLine := rfl
  nmiPending := rfl
  haltLine := rfl
  m6800 _ := rfl
  waiting _ := rfl
  m6502 h := nomatch h
  memWf h := h

/-- A body that changes registers, PC, the wait and the draws of the M6800 only. -/
theorem Keeps.of68 {s : State} (r : Regs68) (pc : Word) (w : Bool) (d : Nat) :
    Keeps .m6800 s { s with m6800 := r, pc := pc, waiting := w, draws := d } where
  profile := rfl
  params := rfl
  irqLine := rfl
  nmiLine := rfl
  nmiPending := rfl
  haltLine := rfl
  m6800 h := nomatch h
  waiting h := nomatch h
  m6502 _ := rfl
  memWf h := h

theorem Keeps.trans {p : Profile} {s t u : State} (h : Keeps p s t) (k : Keeps p t u) : Keeps p s u where
  profile := k.profile.trans h.profile
  params := k.params.trans h.params
  irqLine := k.irqLine.trans h.irqLine
  nmiLine := k.nmiLine.trans h.nmiLine
  nmiPending := k.nmiPending.trans h.nmiPending
  haltLine := k.haltLine.trans h.haltLine
  m6800 e := (k.m6800 e).trans (h.m6800 e)
  waiting e := (k.waiting e).trans (h.waiting e)
  m6502 e := (k.m6502 e).trans (h.m6502 e)
  memWf e := k.memWf (h.memWf e)

theorem Keeps.writeByte (p : Profile) (s : State) (a : Word) (v : Byte) : Keeps p s (s.writeByte a v) where
  profile := rfl
  params := rfl
  irqLine := rfl
  nmiLine := rfl
  nmiPending := rfl
  haltLine := rfl
  m6800 _ := rfl
  waiting _ := rfl
  m6502 _ := rfl
  memWf h := memWf_writeByte s a v h

theorem Keeps.push65 (v : Byte) (s : State) : Keeps .m6502 s (push65 v s) :=
  (Keeps.writeByte .m6502 s _ v).trans (Keeps.of65 _ _)

theorem Keeps.push16At65 (w : Word) (s : State) : Keeps .m6502 s (push16At65 w s) := by
  unfold Machine.push16At65
  split <;> exact (Keeps.push65 _ _).trans (Keeps.push65 _ _)

theorem Keeps.pushFrame65 (pc : Word) (b : Bool) (s : State) : Keeps .m6502 s (pushFrame65 pc b s) :=
  (Keeps.push16At65 _ _).trans (Keeps.push65 _ _)

theorem Keeps.enter65 (pc : Word) (b : Bool) (v : Word) (s : State) : Keeps .m6502 s (enter65 pc b v s) :=
  (Keeps.pushFrame65 pc b s).trans (Keeps.of65 _ _)

theorem Keeps.pullFrame65 (s : State) : Keeps .m6502 s (pullFrame65 s) := by
  rw [pullFrame65_eq]
  exact Keeps.of65 _ _

theorem Keeps.push68 (v : Byte) (s : State) : Keeps .m6800 s (push68 v s) :=
  (Keeps.writeByte .m6800 s _ v).trans (Keeps.of68 _ _ _ _)

theorem Keeps.push16At68 (w : Word) (s : State) : Keeps .m6800 s (push16At68 w s) :=
  (Keeps.push68 _ _).trans (Keeps.push68 _ _)

theorem Keeps.pushFrame68 (s : State) : Keeps .m6800 s (pushFrame68 s) :=
  ((((Keeps.push16At68 _ _).trans (Keeps.push16At68 _ _)).trans (Keeps.push68 _ _)).trans (Keeps.push68 _ _)).trans
    (Keeps.push68 _ _)

theorem Keeps.vector68 (v : Word) (s : State) : Keeps .m6800 s (vector68 v s) := Keeps.of68 _ _ _ _

theorem Keeps.enter68 (v : Word) (s : State) : Keeps .m6800 s (enter68 v s) :=
  (Keeps.pushFrame68 s).trans (Keeps.vector68 v _)

theorem Keeps.pullFrame68 (s : State) : Keeps .m6800 s (pullFrame68 s) := by
  rw [pullFrame68_eq]
  exact Keeps.of68 _ _ _ _

/-! ### Extra cycles -/

theorem Ea65.penalty_le (s : State) (ea : Ea65) : ea.penalty s ≤ 1 := by
  have hb : ∀ b, bit b ≤ 1 := by decide
  cases ea <;> simp [Ea65.penalty, hb]

theorem Src65.penalty_le (s : State) (src : Src65) : src.penalty s ≤ 1 := by
  cases src <;> simp [Src65.penalty, Ea65.penalty_le]

theorem takenExtra_le (next target : Word) : takenExtra next target ≤ 2 := by
  unfold takenExtra
  split <;> omega

/-! ### Each shape -/

/-- An instruction with no extra cycle. -/
theorem execRuns_of {i : Instr} {s : State} {body : State → State} (h : ∀ t, Keeps i.profile t (body t)) :
    ExecRuns i s (run i 0 body s) := ⟨0, body, rfl, by omega, fun _ => rfl, h⟩

theorem execRuns_regs65 {i : Instr} {s : State} (f : Regs65 → Regs65) (h : i.profile = .m6502) :
    ExecRuns i s (regs65 i f s) := execRuns_of fun _ => h ▸ Keeps.of65 _ _

theorem execRuns_read65 {i : Instr} {s : State} (src : Src65) (f : Byte → Regs65 → Regs65) (h : i.profile = .m6502) :
    ExecRuns i s (read65 i src f s) :=
  ⟨_, _, rfl, Nat.le_trans (src.penalty_le s) (by omega), fun e => (nomatch h.symm.trans e), fun _ => h ▸ Keeps.of65 _ _⟩

theorem execRuns_store65 {i : Instr} {s : State} (ea : Ea65) (value : Regs65 → Byte) :
    ExecRuns i s (store65 i ea value s) := execRuns_of fun _ => Keeps.writeByte _ _ _ _

theorem execRuns_rmw65 {i : Instr} {s : State} (dst : Dst65) (f : Byte → Regs65 → Byte × Regs65)
    (h : i.profile = .m6502) : ExecRuns i s (rmw65 i dst f s) :=
  execRuns_of fun _ => by
    rw [h]
    cases dst
    · exact Keeps.of65 _ _
    · exact (Keeps.writeByte _ _ _ _).trans (Keeps.of65 _ _)

theorem execRuns_branch65 {i : Instr} {s : State} (off : Byte) (cond : Regs65 → Bool) (h : i.profile = .m6502) :
    ExecRuns i s (branch65 i off cond s) := by
  refine ⟨_, fun t => if cond t.m6502 then { t with pc := relTarget t.pc off } else t, rfl, ?_,
    fun e => (nomatch h.symm.trans e), fun t => h ▸ ?_⟩
  · split
    · exact takenExtra_le _ _
    · omega
  · dsimp only
    split <;> exact Keeps.of65 _ _

theorem execRuns_regs68 {i : Instr} {s : State} (f : Regs68 → Regs68) (h : i.profile = .m6800) :
    ExecRuns i s (regs68 i f s) := execRuns_of fun _ => h ▸ Keeps.of68 _ _ _ _

theorem execRuns_read68 {i : Instr} {s : State} (src : Src68) (f : Byte → Regs68 → Regs68) (h : i.profile = .m6800) :
    ExecRuns i s (read68 i src f s) := execRuns_of fun _ => h ▸ Keeps.of68 _ _ _ _

theorem execRuns_read68W {i : Instr} {s : State} (src : Src68W) (f : Word → Regs68 → Regs68) (h : i.profile = .m6800) :
    ExecRuns i s (read68W i src f s) := execRuns_of fun _ => h ▸ Keeps.of68 _ _ _ _

theorem execRuns_store68 {i : Instr} {s : State} (ea : Ea68) (value : Regs68 → Byte) (h : i.profile = .m6800) :
    ExecRuns i s (store68 i ea value s) :=
  execRuns_of fun _ => h ▸ (Keeps.writeByte _ _ _ _).trans (Keeps.of68 _ _ _ _)

theorem execRuns_store68W {i : Instr} {s : State} (ea : Ea68) (value : Regs68 → Word) (h : i.profile = .m6800) :
    ExecRuns i s (store68W i ea value s) :=
  execRuns_of fun _ => h ▸
    ((Keeps.writeByte _ _ _ _).trans (Keeps.writeByte _ _ _ _)).trans (Keeps.of68 _ _ _ _)

theorem execRuns_rmw68 {i : Instr} {s : State} (dst : Dst68) (f : Byte → Regs68 → Byte × Regs68)
    (h : i.profile = .m6800) : ExecRuns i s (rmw68 i dst f s) :=
  execRuns_of fun _ => by
    rw [h]
    cases dst
    · exact Keeps.of68 _ _ _ _
    · exact Keeps.of68 _ _ _ _
    · exact (Keeps.writeByte _ _ _ _).trans (Keeps.of68 _ _ _ _)

theorem execRuns_branch68 {i : Instr} {s : State} (off : Byte) (cond : Regs68 → Bool) (h : i.profile = .m6800) :
    ExecRuns i s (branch68 i off cond s) :=
  execRuns_of (body := fun t => if cond t.m6800 then { t with pc := relTarget t.pc off } else t) fun t => by
    rw [h]
    split <;> exact Keeps.of68 _ _ _ _

/-! ### Every instruction -/

/-- Every instruction is `run` of a body that keeps what an instruction keeps. -/
theorem exec_runs (i : Instr) (s : State) : ExecRuns i s (exec i s) := by
  match i with
  | .m6502Lda m => exact show ExecRuns (.m6502Lda m) s (execM6502Lda m s) from execRuns_read65 _ _ rfl
  | .m6502Ldx m => exact show ExecRuns (.m6502Ldx m) s (execM6502Ldx m s) from execRuns_read65 _ _ rfl
  | .m6502Ldy m => exact show ExecRuns (.m6502Ldy m) s (execM6502Ldy m s) from execRuns_read65 _ _ rfl
  | .m6502Sta m => exact show ExecRuns (.m6502Sta m) s (execM6502Sta m s) from execRuns_store65 _ _
  | .m6502Stx m => exact show ExecRuns (.m6502Stx m) s (execM6502Stx m s) from execRuns_store65 _ _
  | .m6502Sty m => exact show ExecRuns (.m6502Sty m) s (execM6502Sty m s) from execRuns_store65 _ _
  | .m6502Tax => exact show ExecRuns .m6502Tax s (execM6502Tax s) from execRuns_regs65 _ rfl
  | .m6502Tay => exact show ExecRuns .m6502Tay s (execM6502Tay s) from execRuns_regs65 _ rfl
  | .m6502Txa => exact show ExecRuns .m6502Txa s (execM6502Txa s) from execRuns_regs65 _ rfl
  | .m6502Tya => exact show ExecRuns .m6502Tya s (execM6502Tya s) from execRuns_regs65 _ rfl
  | .m6502Tsx => exact show ExecRuns .m6502Tsx s (execM6502Tsx s) from execRuns_regs65 _ rfl
  | .m6502Txs => exact show ExecRuns .m6502Txs s (execM6502Txs s) from execRuns_regs65 _ rfl
  | .m6502Adc m => exact show ExecRuns (.m6502Adc m) s (execM6502Adc m s) from execRuns_read65 _ _ rfl
  | .m6502Sbc m => exact show ExecRuns (.m6502Sbc m) s (execM6502Sbc m s) from execRuns_read65 _ _ rfl
  | .m6502And m => exact show ExecRuns (.m6502And m) s (execM6502And m s) from execRuns_read65 _ _ rfl
  | .m6502Ora m => exact show ExecRuns (.m6502Ora m) s (execM6502Ora m s) from execRuns_read65 _ _ rfl
  | .m6502Eor m => exact show ExecRuns (.m6502Eor m) s (execM6502Eor m s) from execRuns_read65 _ _ rfl
  | .m6502Bit m => exact show ExecRuns (.m6502Bit m) s (execM6502Bit m s) from execRuns_read65 _ _ rfl
  | .m6502Cmp m => exact show ExecRuns (.m6502Cmp m) s (execM6502Cmp m s) from execRuns_read65 _ _ rfl
  | .m6502Cpx m => exact show ExecRuns (.m6502Cpx m) s (execM6502Cpx m s) from execRuns_read65 _ _ rfl
  | .m6502Cpy m => exact show ExecRuns (.m6502Cpy m) s (execM6502Cpy m s) from execRuns_read65 _ _ rfl
  | .m6502Inc m => exact show ExecRuns (.m6502Inc m) s (execM6502Inc m s) from execRuns_rmw65 _ _ rfl
  | .m6502Dec m => exact show ExecRuns (.m6502Dec m) s (execM6502Dec m s) from execRuns_rmw65 _ _ rfl
  | .m6502Inx => exact show ExecRuns .m6502Inx s (execM6502Inx s) from execRuns_regs65 _ rfl
  | .m6502Iny => exact show ExecRuns .m6502Iny s (execM6502Iny s) from execRuns_regs65 _ rfl
  | .m6502Dex => exact show ExecRuns .m6502Dex s (execM6502Dex s) from execRuns_regs65 _ rfl
  | .m6502Dey => exact show ExecRuns .m6502Dey s (execM6502Dey s) from execRuns_regs65 _ rfl
  | .m6502Asl m => exact show ExecRuns (.m6502Asl m) s (execM6502Asl m s) from execRuns_rmw65 _ _ rfl
  | .m6502Lsr m => exact show ExecRuns (.m6502Lsr m) s (execM6502Lsr m s) from execRuns_rmw65 _ _ rfl
  | .m6502Rol m => exact show ExecRuns (.m6502Rol m) s (execM6502Rol m s) from execRuns_rmw65 _ _ rfl
  | .m6502Ror m => exact show ExecRuns (.m6502Ror m) s (execM6502Ror m s) from execRuns_rmw65 _ _ rfl
  | .m6502Bpl off => exact show ExecRuns (.m6502Bpl off) s (execM6502Bpl off s) from execRuns_branch65 _ _ rfl
  | .m6502Bmi off => exact show ExecRuns (.m6502Bmi off) s (execM6502Bmi off s) from execRuns_branch65 _ _ rfl
  | .m6502Bvc off => exact show ExecRuns (.m6502Bvc off) s (execM6502Bvc off s) from execRuns_branch65 _ _ rfl
  | .m6502Bvs off => exact show ExecRuns (.m6502Bvs off) s (execM6502Bvs off s) from execRuns_branch65 _ _ rfl
  | .m6502Bcc off => exact show ExecRuns (.m6502Bcc off) s (execM6502Bcc off s) from execRuns_branch65 _ _ rfl
  | .m6502Bcs off => exact show ExecRuns (.m6502Bcs off) s (execM6502Bcs off s) from execRuns_branch65 _ _ rfl
  | .m6502Bne off => exact show ExecRuns (.m6502Bne off) s (execM6502Bne off s) from execRuns_branch65 _ _ rfl
  | .m6502Beq off => exact show ExecRuns (.m6502Beq off) s (execM6502Beq off s) from execRuns_branch65 _ _ rfl
  | .m6502Jmp m => exact show ExecRuns (.m6502Jmp m) s (execM6502Jmp m s) from execRuns_of fun _ => Keeps.of65 _ _
  | .m6502Jsr w => exact show ExecRuns (.m6502Jsr w) s (execM6502Jsr w s) from
      (execRuns_of fun _ => (Keeps.push16At65 _ _).trans (Keeps.of65 _ _))
  | .m6502Rts => exact show ExecRuns .m6502Rts s (execM6502Rts s) from execRuns_of fun _ => Keeps.of65 _ _
  | .m6502Rti => exact show ExecRuns .m6502Rti s (execM6502Rti s) from execRuns_of Keeps.pullFrame65
  | .m6502Brk => exact show ExecRuns .m6502Brk s (execM6502Brk s) from execRuns_of fun _ => Keeps.enter65 _ _ _ _
  | .m6502Pha => exact show ExecRuns .m6502Pha s (execM6502Pha s) from execRuns_of fun _ => Keeps.push65 _ _
  | .m6502Php => exact show ExecRuns .m6502Php s (execM6502Php s) from execRuns_of fun _ => Keeps.push65 _ _
  | .m6502Pla => exact show ExecRuns .m6502Pla s (execM6502Pla s) from execRuns_of fun _ => Keeps.of65 _ _
  | .m6502Plp => exact show ExecRuns .m6502Plp s (execM6502Plp s) from execRuns_of fun _ => Keeps.of65 _ _
  | .m6502Clc => exact show ExecRuns .m6502Clc s (execM6502Clc s) from execRuns_regs65 _ rfl
  | .m6502Sec => exact show ExecRuns .m6502Sec s (execM6502Sec s) from execRuns_regs65 _ rfl
  | .m6502Cli => exact show ExecRuns .m6502Cli s (execM6502Cli s) from execRuns_regs65 _ rfl
  | .m6502Sei => exact show ExecRuns .m6502Sei s (execM6502Sei s) from execRuns_regs65 _ rfl
  | .m6502Cld => exact show ExecRuns .m6502Cld s (execM6502Cld s) from execRuns_regs65 _ rfl
  | .m6502Sed => exact show ExecRuns .m6502Sed s (execM6502Sed s) from execRuns_regs65 _ rfl
  | .m6502Clv => exact show ExecRuns .m6502Clv s (execM6502Clv s) from execRuns_regs65 _ rfl
  | .m6502Nop => exact show ExecRuns .m6502Nop s (execM6502Nop s) from execRuns_of fun _ => Keeps.of65 _ _
  | .m6800Ldaa m => exact show ExecRuns (.m6800Ldaa m) s (execM6800Ldaa m s) from execRuns_read68 _ _ rfl
  | .m6800Ldab m => exact show ExecRuns (.m6800Ldab m) s (execM6800Ldab m s) from execRuns_read68 _ _ rfl
  | .m6800Staa m => exact show ExecRuns (.m6800Staa m) s (execM6800Staa m s) from execRuns_store68 _ _ rfl
  | .m6800Stab m => exact show ExecRuns (.m6800Stab m) s (execM6800Stab m s) from execRuns_store68 _ _ rfl
  | .m6800Lds m => exact show ExecRuns (.m6800Lds m) s (execM6800Lds m s) from execRuns_read68W _ _ rfl
  | .m6800Ldx m => exact show ExecRuns (.m6800Ldx m) s (execM6800Ldx m s) from execRuns_read68W _ _ rfl
  | .m6800Sts m => exact show ExecRuns (.m6800Sts m) s (execM6800Sts m s) from execRuns_store68W _ _ rfl
  | .m6800Stx m => exact show ExecRuns (.m6800Stx m) s (execM6800Stx m s) from execRuns_store68W _ _ rfl
  | .m6800Tab => exact show ExecRuns .m6800Tab s (execM6800Tab s) from execRuns_regs68 _ rfl
  | .m6800Tba => exact show ExecRuns .m6800Tba s (execM6800Tba s) from execRuns_regs68 _ rfl
  | .m6800Tap => exact show ExecRuns .m6800Tap s (execM6800Tap s) from execRuns_regs68 _ rfl
  | .m6800Tpa => exact show ExecRuns .m6800Tpa s (execM6800Tpa s) from execRuns_regs68 _ rfl
  | .m6800Tsx => exact show ExecRuns .m6800Tsx s (execM6800Tsx s) from execRuns_regs68 _ rfl
  | .m6800Txs => exact show ExecRuns .m6800Txs s (execM6800Txs s) from execRuns_regs68 _ rfl
  | .m6800Psha => exact show ExecRuns .m6800Psha s (execM6800Psha s) from execRuns_of fun _ => Keeps.push68 _ _
  | .m6800Pshb => exact show ExecRuns .m6800Pshb s (execM6800Pshb s) from execRuns_of fun _ => Keeps.push68 _ _
  | .m6800Pula => exact show ExecRuns .m6800Pula s (execM6800Pula s) from execRuns_of fun _ => Keeps.of68 _ _ _ _
  | .m6800Pulb => exact show ExecRuns .m6800Pulb s (execM6800Pulb s) from execRuns_of fun _ => Keeps.of68 _ _ _ _
  | .m6800Inx => exact show ExecRuns .m6800Inx s (execM6800Inx s) from execRuns_regs68 _ rfl
  | .m6800Dex => exact show ExecRuns .m6800Dex s (execM6800Dex s) from execRuns_regs68 _ rfl
  | .m6800Ins => exact show ExecRuns .m6800Ins s (execM6800Ins s) from execRuns_regs68 _ rfl
  | .m6800Des => exact show ExecRuns .m6800Des s (execM6800Des s) from execRuns_regs68 _ rfl
  | .m6800Adda m => exact show ExecRuns (.m6800Adda m) s (execM6800Adda m s) from execRuns_read68 _ _ rfl
  | .m6800Addb m => exact show ExecRuns (.m6800Addb m) s (execM6800Addb m s) from execRuns_read68 _ _ rfl
  | .m6800Adca m => exact show ExecRuns (.m6800Adca m) s (execM6800Adca m s) from execRuns_read68 _ _ rfl
  | .m6800Adcb m => exact show ExecRuns (.m6800Adcb m) s (execM6800Adcb m s) from execRuns_read68 _ _ rfl
  | .m6800Aba => exact show ExecRuns .m6800Aba s (execM6800Aba s) from execRuns_regs68 _ rfl
  | .m6800Suba m => exact show ExecRuns (.m6800Suba m) s (execM6800Suba m s) from execRuns_read68 _ _ rfl
  | .m6800Subb m => exact show ExecRuns (.m6800Subb m) s (execM6800Subb m s) from execRuns_read68 _ _ rfl
  | .m6800Sbca m => exact show ExecRuns (.m6800Sbca m) s (execM6800Sbca m s) from execRuns_read68 _ _ rfl
  | .m6800Sbcb m => exact show ExecRuns (.m6800Sbcb m) s (execM6800Sbcb m s) from execRuns_read68 _ _ rfl
  | .m6800Sba => exact show ExecRuns .m6800Sba s (execM6800Sba s) from execRuns_regs68 _ rfl
  | .m6800Cmpa m => exact show ExecRuns (.m6800Cmpa m) s (execM6800Cmpa m s) from execRuns_read68 _ _ rfl
  | .m6800Cmpb m => exact show ExecRuns (.m6800Cmpb m) s (execM6800Cmpb m s) from execRuns_read68 _ _ rfl
  | .m6800Cba => exact show ExecRuns .m6800Cba s (execM6800Cba s) from execRuns_regs68 _ rfl
  | .m6800Cpx m => exact show ExecRuns (.m6800Cpx m) s (execM6800Cpx m s) from execRuns_read68W _ _ rfl
  | .m6800Anda m => exact show ExecRuns (.m6800Anda m) s (execM6800Anda m s) from execRuns_read68 _ _ rfl
  | .m6800Andb m => exact show ExecRuns (.m6800Andb m) s (execM6800Andb m s) from execRuns_read68 _ _ rfl
  | .m6800Bita m => exact show ExecRuns (.m6800Bita m) s (execM6800Bita m s) from execRuns_read68 _ _ rfl
  | .m6800Bitb m => exact show ExecRuns (.m6800Bitb m) s (execM6800Bitb m s) from execRuns_read68 _ _ rfl
  | .m6800Eora m => exact show ExecRuns (.m6800Eora m) s (execM6800Eora m s) from execRuns_read68 _ _ rfl
  | .m6800Eorb m => exact show ExecRuns (.m6800Eorb m) s (execM6800Eorb m s) from execRuns_read68 _ _ rfl
  | .m6800Oraa m => exact show ExecRuns (.m6800Oraa m) s (execM6800Oraa m s) from execRuns_read68 _ _ rfl
  | .m6800Orab m => exact show ExecRuns (.m6800Orab m) s (execM6800Orab m s) from execRuns_read68 _ _ rfl
  | .m6800Daa => exact show ExecRuns .m6800Daa s (execM6800Daa s) from execRuns_of fun _ => Keeps.of68 _ _ _ _
  | .m6800Nega => exact show ExecRuns .m6800Nega s (execM6800Nega s) from execRuns_rmw68 _ _ rfl
  | .m6800Negb => exact show ExecRuns .m6800Negb s (execM6800Negb s) from execRuns_rmw68 _ _ rfl
  | .m6800Neg m => exact show ExecRuns (.m6800Neg m) s (execM6800Neg m s) from execRuns_rmw68 _ _ rfl
  | .m6800Coma => exact show ExecRuns .m6800Coma s (execM6800Coma s) from execRuns_rmw68 _ _ rfl
  | .m6800Comb => exact show ExecRuns .m6800Comb s (execM6800Comb s) from execRuns_rmw68 _ _ rfl
  | .m6800Com m => exact show ExecRuns (.m6800Com m) s (execM6800Com m s) from execRuns_rmw68 _ _ rfl
  | .m6800Clra => exact show ExecRuns .m6800Clra s (execM6800Clra s) from execRuns_regs68 _ rfl
  | .m6800Clrb => exact show ExecRuns .m6800Clrb s (execM6800Clrb s) from execRuns_regs68 _ rfl
  | .m6800Clr m => exact show ExecRuns (.m6800Clr m) s (execM6800Clr m s) from
      (execRuns_of fun _ => (Keeps.writeByte _ _ _ _).trans (Keeps.of68 _ _ _ _))
  | .m6800Tsta => exact show ExecRuns .m6800Tsta s (execM6800Tsta s) from execRuns_regs68 _ rfl
  | .m6800Tstb => exact show ExecRuns .m6800Tstb s (execM6800Tstb s) from execRuns_regs68 _ rfl
  | .m6800Tst m => exact show ExecRuns (.m6800Tst m) s (execM6800Tst m s) from execRuns_read68 _ _ rfl
  | .m6800Inca => exact show ExecRuns .m6800Inca s (execM6800Inca s) from execRuns_rmw68 _ _ rfl
  | .m6800Incb => exact show ExecRuns .m6800Incb s (execM6800Incb s) from execRuns_rmw68 _ _ rfl
  | .m6800Inc m => exact show ExecRuns (.m6800Inc m) s (execM6800Inc m s) from execRuns_rmw68 _ _ rfl
  | .m6800Deca => exact show ExecRuns .m6800Deca s (execM6800Deca s) from execRuns_rmw68 _ _ rfl
  | .m6800Decb => exact show ExecRuns .m6800Decb s (execM6800Decb s) from execRuns_rmw68 _ _ rfl
  | .m6800Dec m => exact show ExecRuns (.m6800Dec m) s (execM6800Dec m s) from execRuns_rmw68 _ _ rfl
  | .m6800Asla => exact show ExecRuns .m6800Asla s (execM6800Asla s) from execRuns_rmw68 _ _ rfl
  | .m6800Aslb => exact show ExecRuns .m6800Aslb s (execM6800Aslb s) from execRuns_rmw68 _ _ rfl
  | .m6800Asl m => exact show ExecRuns (.m6800Asl m) s (execM6800Asl m s) from execRuns_rmw68 _ _ rfl
  | .m6800Asra => exact show ExecRuns .m6800Asra s (execM6800Asra s) from execRuns_rmw68 _ _ rfl
  | .m6800Asrb => exact show ExecRuns .m6800Asrb s (execM6800Asrb s) from execRuns_rmw68 _ _ rfl
  | .m6800Asr m => exact show ExecRuns (.m6800Asr m) s (execM6800Asr m s) from execRuns_rmw68 _ _ rfl
  | .m6800Lsra => exact show ExecRuns .m6800Lsra s (execM6800Lsra s) from execRuns_rmw68 _ _ rfl
  | .m6800Lsrb => exact show ExecRuns .m6800Lsrb s (execM6800Lsrb s) from execRuns_rmw68 _ _ rfl
  | .m6800Lsr m => exact show ExecRuns (.m6800Lsr m) s (execM6800Lsr m s) from execRuns_rmw68 _ _ rfl
  | .m6800Rola => exact show ExecRuns .m6800Rola s (execM6800Rola s) from execRuns_rmw68 _ _ rfl
  | .m6800Rolb => exact show ExecRuns .m6800Rolb s (execM6800Rolb s) from execRuns_rmw68 _ _ rfl
  | .m6800Rol m => exact show ExecRuns (.m6800Rol m) s (execM6800Rol m s) from execRuns_rmw68 _ _ rfl
  | .m6800Rora => exact show ExecRuns .m6800Rora s (execM6800Rora s) from execRuns_rmw68 _ _ rfl
  | .m6800Rorb => exact show ExecRuns .m6800Rorb s (execM6800Rorb s) from execRuns_rmw68 _ _ rfl
  | .m6800Ror m => exact show ExecRuns (.m6800Ror m) s (execM6800Ror m s) from execRuns_rmw68 _ _ rfl
  | .m6800Bra off => exact show ExecRuns (.m6800Bra off) s (execM6800Bra off s) from execRuns_branch68 _ _ rfl
  | .m6800Bhi off => exact show ExecRuns (.m6800Bhi off) s (execM6800Bhi off s) from execRuns_branch68 _ _ rfl
  | .m6800Bls off => exact show ExecRuns (.m6800Bls off) s (execM6800Bls off s) from execRuns_branch68 _ _ rfl
  | .m6800Bcc off => exact show ExecRuns (.m6800Bcc off) s (execM6800Bcc off s) from execRuns_branch68 _ _ rfl
  | .m6800Bcs off => exact show ExecRuns (.m6800Bcs off) s (execM6800Bcs off s) from execRuns_branch68 _ _ rfl
  | .m6800Bne off => exact show ExecRuns (.m6800Bne off) s (execM6800Bne off s) from execRuns_branch68 _ _ rfl
  | .m6800Beq off => exact show ExecRuns (.m6800Beq off) s (execM6800Beq off s) from execRuns_branch68 _ _ rfl
  | .m6800Bvc off => exact show ExecRuns (.m6800Bvc off) s (execM6800Bvc off s) from execRuns_branch68 _ _ rfl
  | .m6800Bvs off => exact show ExecRuns (.m6800Bvs off) s (execM6800Bvs off s) from execRuns_branch68 _ _ rfl
  | .m6800Bpl off => exact show ExecRuns (.m6800Bpl off) s (execM6800Bpl off s) from execRuns_branch68 _ _ rfl
  | .m6800Bmi off => exact show ExecRuns (.m6800Bmi off) s (execM6800Bmi off s) from execRuns_branch68 _ _ rfl
  | .m6800Bge off => exact show ExecRuns (.m6800Bge off) s (execM6800Bge off s) from execRuns_branch68 _ _ rfl
  | .m6800Blt off => exact show ExecRuns (.m6800Blt off) s (execM6800Blt off s) from execRuns_branch68 _ _ rfl
  | .m6800Bgt off => exact show ExecRuns (.m6800Bgt off) s (execM6800Bgt off s) from execRuns_branch68 _ _ rfl
  | .m6800Ble off => exact show ExecRuns (.m6800Ble off) s (execM6800Ble off s) from execRuns_branch68 _ _ rfl
  | .m6800Bsr off => exact show ExecRuns (.m6800Bsr off) s (execM6800Bsr off s) from
      (execRuns_of fun _ => (Keeps.push16At68 _ _).trans (Keeps.of68 _ _ _ _))
  | .m6800Jmp m => exact show ExecRuns (.m6800Jmp m) s (execM6800Jmp m s) from execRuns_of fun _ => Keeps.of68 _ _ _ _
  | .m6800Jsr m => exact show ExecRuns (.m6800Jsr m) s (execM6800Jsr m s) from
      (execRuns_of fun _ => (Keeps.push16At68 _ _).trans (Keeps.of68 _ _ _ _))
  | .m6800Rts => exact show ExecRuns .m6800Rts s (execM6800Rts s) from execRuns_of fun _ => Keeps.of68 _ _ _ _
  | .m6800Rti => exact show ExecRuns .m6800Rti s (execM6800Rti s) from execRuns_of Keeps.pullFrame68
  | .m6800Swi => exact show ExecRuns .m6800Swi s (execM6800Swi s) from execRuns_of fun _ => Keeps.enter68 _ _
  | .m6800Wai => exact show ExecRuns .m6800Wai s (execM6800Wai s) from
      (execRuns_of fun _ => (Keeps.pushFrame68 _).trans (Keeps.of68 _ _ _ _))
  | .m6800Nop => exact show ExecRuns .m6800Nop s (execM6800Nop s) from execRuns_of fun _ => Keeps.of68 _ _ _ _
  | .m6800Clc => exact show ExecRuns .m6800Clc s (execM6800Clc s) from execRuns_regs68 _ rfl
  | .m6800Sec => exact show ExecRuns .m6800Sec s (execM6800Sec s) from execRuns_regs68 _ rfl
  | .m6800Cli => exact show ExecRuns .m6800Cli s (execM6800Cli s) from execRuns_regs68 _ rfl
  | .m6800Sei => exact show ExecRuns .m6800Sei s (execM6800Sei s) from execRuns_regs68 _ rfl
  | .m6800Clv => exact show ExecRuns .m6800Clv s (execM6800Clv s) from execRuns_regs68 _ rfl
  | .m6800Sev => exact show ExecRuns .m6800Sev s (execM6800Sev s) from execRuns_regs68 _ rfl

/-- Where an instruction answers a next state: on an engine of its profile, with the pins, the parameters and the register
file of the other profile as before, and the countdown set from its cycles. -/
theorem exec_eq_next {i : Instr} {s t : State} (h : exec i s = .next t) :
    s.profile = i.profile ∧ Keeps i.profile s t ∧
      ∃ extra, t.remaining = s.cyclesOf i + extra - 1 ∧ extra ≤ 2 ∧ (i.profile = .m6800 → extra = 0) := by
  obtain ⟨extra, body, e, hx, h8, hk⟩ := exec_runs i s
  rw [e] at h
  obtain ⟨hp, rfl⟩ := run_eq_next h
  have k := hk (s.advance i.size)
  exact ⟨hp, ⟨k.profile, k.params, k.irqLine, k.nmiLine, k.nmiPending, k.haltLine, k.m6800, k.waiting, k.m6502, k.memWf⟩,
    extra, rfl, hx, h8⟩

/-- An instruction of the engine's own profile answers a next state. -/
theorem exec_next_of_profile {i : Instr} {s : State} (h : s.profile = i.profile) : ∃ t, exec i s = .next t := by
  obtain ⟨extra, body, e, -⟩ := exec_runs i s
  exact ⟨_, e.trans (run_of_profile h)⟩

end Sys2Proof.Machine
end

