-- ==== Sys2Proof/Laws/Numbers.lean ====
section
/-!
SUPPORT. The flags as numbers (Safety.lean) are the flags as bits (Flags.lean).
-/

namespace Sys2Proof.Machine

theorem byte_msb (v : Byte) : v.msb = decide (128 ≤ v.toNat) := by
  rw [BitVec.msb_eq_decide]

theorem byte_eq_zero (v : Byte) : (v = 0) = (v.toNat = 0) := by
  rw [← BitVec.toNat_inj]
  rfl

/-- N and Z of the byte a number is truncated to. -/
theorem negativeOf_eq (n : Nat) : negativeOf n = (BitVec.ofNat 8 n).msb := by
  rw [byte_msb, BitVec.toNat_ofNat, negativeOf]

theorem zeroOf_eq (n : Nat) : zeroOf n = decide (BitVec.ofNat 8 n = 0) := by
  simp only [byte_eq_zero, BitVec.toNat_ofNat, zeroOf]

@[simp] theorem negativeOf_toNat (v : Byte) : negativeOf v.toNat = v.msb := by
  rw [negativeOf_eq, BitVec.ofNat_toNat, BitVec.setWidth_eq]

@[simp] theorem zeroOf_toNat (v : Byte) : zeroOf v.toNat = decide (v = 0) := by
  simp only [zeroOf_eq, BitVec.ofNat_toNat, BitVec.setWidth_eq]

theorem bit_le (b : Bool) : bit b ≤ 1 := by cases b <;> decide

theorem byte_toInt (v : Byte) : v.toInt = if 128 ≤ v.toNat then (v.toNat : Int) - 256 else v.toNat := by
  rw [BitVec.toInt_eq_toNat_cond]
  have := v.isLt
  split <;> split <;> omega

/-- The overflow rule of `add8` (42_alu.md R165) says that the signed sum does not fit. -/
theorem add8_v (a m : Byte) (cin : Bool) : (add8 a m cin).v = overflows (a.toInt + m.toInt + bit cin) := by
  have ha := a.isLt
  have hm := m.isLt
  have hc := bit_le cin
  simp only [add8, byte_msb, BitVec.toNat_ofNat, byte_toInt, overflows]
  rw [Bool.eq_iff_iff]
  simp only [Bool.and_eq_true, Bool.or_eq_true, beq_iff_eq, bne_iff_ne, ne_eq, decide_eq_true_eq, decide_eq_decide]
  split <;> split <;> omega

/-- The overflow rule of `sub8_6800` (42_alu.md R171) says that the signed difference does not fit. -/
theorem sub8_v (a m : Byte) (bin : Bool) : (sub8 a m bin).v = overflows (a.toInt - m.toInt - bit bin) := by
  have ha := a.isLt
  have hm := m.isLt
  have hc := bit_le bin
  simp only [sub8, byte_msb, BitVec.toNat_ofInt, byte_toInt, overflows]
  rw [Bool.eq_iff_iff]
  simp only [Bool.and_eq_true, Bool.or_eq_true, Bool.not_eq_true', decide_eq_true_eq, decide_eq_false_iff_not]
  split <;> split <;> omega

/-- The binary ADC of the M6502 in numbers (42_alu.md R161). -/
theorem adcBinary_eq (v : Byte) (r : Regs65) :
    adcBinary v r =
      { r with
        a := BitVec.ofNat 8 (r.a.toNat + v.toNat + bit r.c), c := decide (256 ≤ r.a.toNat + v.toNat + bit r.c)
        z := zeroOf (r.a.toNat + v.toNat + bit r.c), n := negativeOf (r.a.toNat + v.toNat + bit r.c)
        v := overflows (r.a.toInt + v.toInt + bit r.c) } := by
  simp only [adcBinary, add8_v, zeroOf_eq, negativeOf_eq]
  rfl

/-- The binary SBC of the M6502 in numbers (42_alu.md R162): C is no borrow. -/
theorem sbcBinary_eq (v : Byte) (r : Regs65) :
    sbcBinary v r =
      { r with
        a := BitVec.ofInt 8 ((r.a.toNat : Int) - v.toNat - (1 - bit r.c))
        c := decide (0 ≤ (r.a.toNat : Int) - v.toNat - (1 - bit r.c))
        z := decide (((r.a.toNat : Int) - v.toNat - (1 - bit r.c)) % 256 = 0)
        n := decide (128 ≤ ((r.a.toNat : Int) - v.toNat - (1 - bit r.c)) % 256)
        v := overflows (r.a.toInt - v.toInt - (1 - bit r.c)) } := by
  have hv := v.isLt
  have ha := r.a.isLt
  have hc := bit_le r.c
  have e1 : ∀ v : Byte, (v ^^^ 0xFF#8).toNat = 255 - v.toNat := by decide
  have e2 : ∀ v : Byte, (v ^^^ 0xFF#8).toInt = - v.toInt - 1 := by decide
  unfold sbcBinary
  rw [adcBinary_eq]
  simp only [e1, e2]
  have h1 : BitVec.ofNat 8 (r.a.toNat + (255 - v.toNat) + bit r.c) =
      BitVec.ofInt 8 ((r.a.toNat : Int) - v.toNat - (1 - bit r.c)) := by
    apply BitVec.eq_of_toNat_eq
    simp only [BitVec.toNat_ofNat, BitVec.toNat_ofInt]
    omega
  have h2 : decide (256 ≤ r.a.toNat + (255 - v.toNat) + bit r.c) =
      decide (0 ≤ (r.a.toNat : Int) - v.toNat - (1 - bit r.c)) := by
    simp only [decide_eq_decide]; omega
  have h3 : zeroOf (r.a.toNat + (255 - v.toNat) + bit r.c) =
      decide (((r.a.toNat : Int) - v.toNat - (1 - bit r.c)) % 256 = 0) := by
    unfold zeroOf; simp only [decide_eq_decide]; omega
  have h4 : negativeOf (r.a.toNat + (255 - v.toNat) + bit r.c) =
      decide (128 ≤ ((r.a.toNat : Int) - v.toNat - (1 - bit r.c)) % 256) := by
    unfold negativeOf; simp only [decide_eq_decide]; omega
  rw [h1, h2, h3, h4,
    show r.a.toInt + (- v.toInt - 1) + bit r.c = r.a.toInt - v.toInt - (1 - bit r.c) by omega]

/-- `add8` and its flags on the M6800 in numbers (42_alu.md R165). -/
theorem addFlags68_eq (x v : Byte) (cin : Bool) (r : Regs68) :
    addFlags68 (add8 x v cin) r =
      { r with
        h := decide (16 ≤ x.toNat % 16 + v.toNat % 16 + bit cin), n := negativeOf (x.toNat + v.toNat + bit cin)
        z := zeroOf (x.toNat + v.toNat + bit cin), v := overflows (x.toInt + v.toInt + bit cin)
        c := decide (256 ≤ x.toNat + v.toNat + bit cin) } := by
  simp only [addFlags68, add8_v, zeroOf_eq, negativeOf_eq]
  rfl

theorem ofInt_msb (d : Int) : (BitVec.ofInt 8 d).msb = decide (128 ≤ d % 256) := by
  rw [byte_msb, BitVec.toNat_ofInt, decide_eq_decide]
  omega

theorem ofInt_eq_zero (d : Int) : (BitVec.ofInt 8 d = 0) = (d % 256 = 0) := by
  rw [byte_eq_zero, BitVec.toNat_ofInt, eq_iff_iff]
  omega

/-- `sub8_6800` and its flags in numbers (42_alu.md R171). -/
theorem subFlags68_eq (x v : Byte) (bin : Bool) (r : Regs68) :
    subFlags68 (sub8 x v bin) r =
      { r with
        n := decide (128 ≤ ((x.toNat : Int) - v.toNat - bit bin) % 256)
        z := decide (((x.toNat : Int) - v.toNat - bit bin) % 256 = 0)
        v := overflows (x.toInt - v.toInt - bit bin), c := decide (x.toNat < v.toNat + bit bin) } := by
  have h : decide ((x.toNat : Int) - v.toNat - bit bin < 0) = decide (x.toNat < v.toNat + bit bin) := by
    rw [decide_eq_decide]
    omega
  simp only [subFlags68, sub8_v]
  simp only [sub8, ofInt_msb, ofInt_eq_zero, h]

end Sys2Proof.Machine
end

