-- ==== Sys2Proof/Laws/PerInstr.lean ====
section
/-!
SUPPORT. One lemma per constructor of Instr about the instruction as syntax: it has one to three bytes (30_encoding.md R81),
and its opcode byte has an entry in the opcode map of its profile (R84, R85, R90).
-/

namespace Sys2Proof.Laws.Length

/-- The instruction has one to three bytes, and its opcode byte is defined in its profile. -/
def Statement (i : Instr) : Prop := 1 ≤ i.size ∧ i.size ≤ 3 ∧ isDefined i.profile i.opcode = true

/-- From the values of the row. -/
theorem of_row {i : Instr} (p : Profile) (op : Byte) (n : Nat) (hp : i.profile = p) (ho : i.opcode = op) (hs : i.size = n)
    (h : 1 ≤ n ∧ n ≤ 3 ∧ isDefined p op = true) : Statement i := by
  subst hp ho hs
  exact h

theorem m6502Lda (m : Mode65.Read) : Statement (.m6502Lda m) :=
  match m with
  | .imm _ => of_row .m6502 0xA9 2 rfl rfl rfl (by decide)
  | .zpg _ => of_row .m6502 0xA5 2 rfl rfl rfl (by decide)
  | .zpx _ => of_row .m6502 0xB5 2 rfl rfl rfl (by decide)
  | .abs _ => of_row .m6502 0xAD 3 rfl rfl rfl (by decide)
  | .abx _ => of_row .m6502 0xBD 3 rfl rfl rfl (by decide)
  | .aby _ => of_row .m6502 0xB9 3 rfl rfl rfl (by decide)
  | .inx _ => of_row .m6502 0xA1 2 rfl rfl rfl (by decide)
  | .iny _ => of_row .m6502 0xB1 2 rfl rfl rfl (by decide)

theorem m6502Ldx (m : Mode65.Ldx) : Statement (.m6502Ldx m) :=
  match m with
  | .imm _ => of_row .m6502 0xA2 2 rfl rfl rfl (by decide)
  | .zpg _ => of_row .m6502 0xA6 2 rfl rfl rfl (by decide)
  | .zpy _ => of_row .m6502 0xB6 2 rfl rfl rfl (by decide)
  | .abs _ => of_row .m6502 0xAE 3 rfl rfl rfl (by decide)
  | .aby _ => of_row .m6502 0xBE 3 rfl rfl rfl (by decide)

theorem m6502Ldy (m : Mode65.Ldy) : Statement (.m6502Ldy m) :=
  match m with
  | .imm _ => of_row .m6502 0xA0 2 rfl rfl rfl (by decide)
  | .zpg _ => of_row .m6502 0xA4 2 rfl rfl rfl (by decide)
  | .zpx _ => of_row .m6502 0xB4 2 rfl rfl rfl (by decide)
  | .abs _ => of_row .m6502 0xAC 3 rfl rfl rfl (by decide)
  | .abx _ => of_row .m6502 0xBC 3 rfl rfl rfl (by decide)

theorem m6502Sta (m : Mode65.Store) : Statement (.m6502Sta m) :=
  match m with
  | .zpg _ => of_row .m6502 0x85 2 rfl rfl rfl (by decide)
  | .zpx _ => of_row .m6502 0x95 2 rfl rfl rfl (by decide)
  | .abs _ => of_row .m6502 0x8D 3 rfl rfl rfl (by decide)
  | .abx _ => of_row .m6502 0x9D 3 rfl rfl rfl (by decide)
  | .aby _ => of_row .m6502 0x99 3 rfl rfl rfl (by decide)
  | .inx _ => of_row .m6502 0x81 2 rfl rfl rfl (by decide)
  | .iny _ => of_row .m6502 0x91 2 rfl rfl rfl (by decide)

theorem m6502Stx (m : Mode65.Stx) : Statement (.m6502Stx m) :=
  match m with
  | .zpg _ => of_row .m6502 0x86 2 rfl rfl rfl (by decide)
  | .zpy _ => of_row .m6502 0x96 2 rfl rfl rfl (by decide)
  | .abs _ => of_row .m6502 0x8E 3 rfl rfl rfl (by decide)

theorem m6502Sty (m : Mode65.Sty) : Statement (.m6502Sty m) :=
  match m with
  | .zpg _ => of_row .m6502 0x84 2 rfl rfl rfl (by decide)
  | .zpx _ => of_row .m6502 0x94 2 rfl rfl rfl (by decide)
  | .abs _ => of_row .m6502 0x8C 3 rfl rfl rfl (by decide)

theorem m6502Tax : Statement .m6502Tax := of_row .m6502 0xAA 1 rfl rfl rfl (by decide)

theorem m6502Tay : Statement .m6502Tay := of_row .m6502 0xA8 1 rfl rfl rfl (by decide)

theorem m6502Txa : Statement .m6502Txa := of_row .m6502 0x8A 1 rfl rfl rfl (by decide)

theorem m6502Tya : Statement .m6502Tya := of_row .m6502 0x98 1 rfl rfl rfl (by decide)

theorem m6502Tsx : Statement .m6502Tsx := of_row .m6502 0xBA 1 rfl rfl rfl (by decide)

theorem m6502Txs : Statement .m6502Txs := of_row .m6502 0x9A 1 rfl rfl rfl (by decide)

theorem m6502Adc (m : Mode65.Read) : Statement (.m6502Adc m) :=
  match m with
  | .imm _ => of_row .m6502 0x69 2 rfl rfl rfl (by decide)
  | .zpg _ => of_row .m6502 0x65 2 rfl rfl rfl (by decide)
  | .zpx _ => of_row .m6502 0x75 2 rfl rfl rfl (by decide)
  | .abs _ => of_row .m6502 0x6D 3 rfl rfl rfl (by decide)
  | .abx _ => of_row .m6502 0x7D 3 rfl rfl rfl (by decide)
  | .aby _ => of_row .m6502 0x79 3 rfl rfl rfl (by decide)
  | .inx _ => of_row .m6502 0x61 2 rfl rfl rfl (by decide)
  | .iny _ => of_row .m6502 0x71 2 rfl rfl rfl (by decide)

theorem m6502Sbc (m : Mode65.Read) : Statement (.m6502Sbc m) :=
  match m with
  | .imm _ => of_row .m6502 0xE9 2 rfl rfl rfl (by decide)
  | .zpg _ => of_row .m6502 0xE5 2 rfl rfl rfl (by decide)
  | .zpx _ => of_row .m6502 0xF5 2 rfl rfl rfl (by decide)
  | .abs _ => of_row .m6502 0xED 3 rfl rfl rfl (by decide)
  | .abx _ => of_row .m6502 0xFD 3 rfl rfl rfl (by decide)
  | .aby _ => of_row .m6502 0xF9 3 rfl rfl rfl (by decide)
  | .inx _ => of_row .m6502 0xE1 2 rfl rfl rfl (by decide)
  | .iny _ => of_row .m6502 0xF1 2 rfl rfl rfl (by decide)

theorem m6502And (m : Mode65.Read) : Statement (.m6502And m) :=
  match m with
  | .imm _ => of_row .m6502 0x29 2 rfl rfl rfl (by decide)
  | .zpg _ => of_row .m6502 0x25 2 rfl rfl rfl (by decide)
  | .zpx _ => of_row .m6502 0x35 2 rfl rfl rfl (by decide)
  | .abs _ => of_row .m6502 0x2D 3 rfl rfl rfl (by decide)
  | .abx _ => of_row .m6502 0x3D 3 rfl rfl rfl (by decide)
  | .aby _ => of_row .m6502 0x39 3 rfl rfl rfl (by decide)
  | .inx _ => of_row .m6502 0x21 2 rfl rfl rfl (by decide)
  | .iny _ => of_row .m6502 0x31 2 rfl rfl rfl (by decide)

theorem m6502Ora (m : Mode65.Read) : Statement (.m6502Ora m) :=
  match m with
  | .imm _ => of_row .m6502 0x09 2 rfl rfl rfl (by decide)
  | .zpg _ => of_row .m6502 0x05 2 rfl rfl rfl (by decide)
  | .zpx _ => of_row .m6502 0x15 2 rfl rfl rfl (by decide)
  | .abs _ => of_row .m6502 0x0D 3 rfl rfl rfl (by decide)
  | .abx _ => of_row .m6502 0x1D 3 rfl rfl rfl (by decide)
  | .aby _ => of_row .m6502 0x19 3 rfl rfl rfl (by decide)
  | .inx _ => of_row .m6502 0x01 2 rfl rfl rfl (by decide)
  | .iny _ => of_row .m6502 0x11 2 rfl rfl rfl (by decide)

theorem m6502Eor (m : Mode65.Read) : Statement (.m6502Eor m) :=
  match m with
  | .imm _ => of_row .m6502 0x49 2 rfl rfl rfl (by decide)
  | .zpg _ => of_row .m6502 0x45 2 rfl rfl rfl (by decide)
  | .zpx _ => of_row .m6502 0x55 2 rfl rfl rfl (by decide)
  | .abs _ => of_row .m6502 0x4D 3 rfl rfl rfl (by decide)
  | .abx _ => of_row .m6502 0x5D 3 rfl rfl rfl (by decide)
  | .aby _ => of_row .m6502 0x59 3 rfl rfl rfl (by decide)
  | .inx _ => of_row .m6502 0x41 2 rfl rfl rfl (by decide)
  | .iny _ => of_row .m6502 0x51 2 rfl rfl rfl (by decide)

theorem m6502Bit (m : Mode65.Bit) : Statement (.m6502Bit m) :=
  match m with
  | .zpg _ => of_row .m6502 0x24 2 rfl rfl rfl (by decide)
  | .abs _ => of_row .m6502 0x2C 3 rfl rfl rfl (by decide)

theorem m6502Cmp (m : Mode65.Read) : Statement (.m6502Cmp m) :=
  match m with
  | .imm _ => of_row .m6502 0xC9 2 rfl rfl rfl (by decide)
  | .zpg _ => of_row .m6502 0xC5 2 rfl rfl rfl (by decide)
  | .zpx _ => of_row .m6502 0xD5 2 rfl rfl rfl (by decide)
  | .abs _ => of_row .m6502 0xCD 3 rfl rfl rfl (by decide)
  | .abx _ => of_row .m6502 0xDD 3 rfl rfl rfl (by decide)
  | .aby _ => of_row .m6502 0xD9 3 rfl rfl rfl (by decide)
  | .inx _ => of_row .m6502 0xC1 2 rfl rfl rfl (by decide)
  | .iny _ => of_row .m6502 0xD1 2 rfl rfl rfl (by decide)

theorem m6502Cpx (m : Mode65.Cpx) : Statement (.m6502Cpx m) :=
  match m with
  | .imm _ => of_row .m6502 0xE0 2 rfl rfl rfl (by decide)
  | .zpg _ => of_row .m6502 0xE4 2 rfl rfl rfl (by decide)
  | .abs _ => of_row .m6502 0xEC 3 rfl rfl rfl (by decide)

theorem m6502Cpy (m : Mode65.Cpx) : Statement (.m6502Cpy m) :=
  match m with
  | .imm _ => of_row .m6502 0xC0 2 rfl rfl rfl (by decide)
  | .zpg _ => of_row .m6502 0xC4 2 rfl rfl rfl (by decide)
  | .abs _ => of_row .m6502 0xCC 3 rfl rfl rfl (by decide)

theorem m6502Inc (m : Mode65.Inc) : Statement (.m6502Inc m) :=
  match m with
  | .zpg _ => of_row .m6502 0xE6 2 rfl rfl rfl (by decide)
  | .zpx _ => of_row .m6502 0xF6 2 rfl rfl rfl (by decide)
  | .abs _ => of_row .m6502 0xEE 3 rfl rfl rfl (by decide)
  | .abx _ => of_row .m6502 0xFE 3 rfl rfl rfl (by decide)

theorem m6502Dec (m : Mode65.Inc) : Statement (.m6502Dec m) :=
  match m with
  | .zpg _ => of_row .m6502 0xC6 2 rfl rfl rfl (by decide)
  | .zpx _ => of_row .m6502 0xD6 2 rfl rfl rfl (by decide)
  | .abs _ => of_row .m6502 0xCE 3 rfl rfl rfl (by decide)
  | .abx _ => of_row .m6502 0xDE 3 rfl rfl rfl (by decide)

theorem m6502Inx : Statement .m6502Inx := of_row .m6502 0xE8 1 rfl rfl rfl (by decide)

theorem m6502Iny : Statement .m6502Iny := of_row .m6502 0xC8 1 rfl rfl rfl (by decide)

theorem m6502Dex : Statement .m6502Dex := of_row .m6502 0xCA 1 rfl rfl rfl (by decide)

theorem m6502Dey : Statement .m6502Dey := of_row .m6502 0x88 1 rfl rfl rfl (by decide)

theorem m6502Asl (m : Mode65.Shift) : Statement (.m6502Asl m) :=
  match m with
  | .acc => of_row .m6502 0x0A 1 rfl rfl rfl (by decide)
  | .zpg _ => of_row .m6502 0x06 2 rfl rfl rfl (by decide)
  | .zpx _ => of_row .m6502 0x16 2 rfl rfl rfl (by decide)
  | .abs _ => of_row .m6502 0x0E 3 rfl rfl rfl (by decide)
  | .abx _ => of_row .m6502 0x1E 3 rfl rfl rfl (by decide)

theorem m6502Lsr (m : Mode65.Shift) : Statement (.m6502Lsr m) :=
  match m with
  | .acc => of_row .m6502 0x4A 1 rfl rfl rfl (by decide)
  | .zpg _ => of_row .m6502 0x46 2 rfl rfl rfl (by decide)
  | .zpx _ => of_row .m6502 0x56 2 rfl rfl rfl (by decide)
  | .abs _ => of_row .m6502 0x4E 3 rfl rfl rfl (by decide)
  | .abx _ => of_row .m6502 0x5E 3 rfl rfl rfl (by decide)

theorem m6502Rol (m : Mode65.Shift) : Statement (.m6502Rol m) :=
  match m with
  | .acc => of_row .m6502 0x2A 1 rfl rfl rfl (by decide)
  | .zpg _ => of_row .m6502 0x26 2 rfl rfl rfl (by decide)
  | .zpx _ => of_row .m6502 0x36 2 rfl rfl rfl (by decide)
  | .abs _ => of_row .m6502 0x2E 3 rfl rfl rfl (by decide)
  | .abx _ => of_row .m6502 0x3E 3 rfl rfl rfl (by decide)

theorem m6502Ror (m : Mode65.Shift) : Statement (.m6502Ror m) :=
  match m with
  | .acc => of_row .m6502 0x6A 1 rfl rfl rfl (by decide)
  | .zpg _ => of_row .m6502 0x66 2 rfl rfl rfl (by decide)
  | .zpx _ => of_row .m6502 0x76 2 rfl rfl rfl (by decide)
  | .abs _ => of_row .m6502 0x6E 3 rfl rfl rfl (by decide)
  | .abx _ => of_row .m6502 0x7E 3 rfl rfl rfl (by decide)

theorem m6502Bpl (x : Byte) : Statement (.m6502Bpl x) := of_row .m6502 0x10 2 rfl rfl rfl (by decide)

theorem m6502Bmi (x : Byte) : Statement (.m6502Bmi x) := of_row .m6502 0x30 2 rfl rfl rfl (by decide)

theorem m6502Bvc (x : Byte) : Statement (.m6502Bvc x) := of_row .m6502 0x50 2 rfl rfl rfl (by decide)

theorem m6502Bvs (x : Byte) : Statement (.m6502Bvs x) := of_row .m6502 0x70 2 rfl rfl rfl (by decide)

theorem m6502Bcc (x : Byte) : Statement (.m6502Bcc x) := of_row .m6502 0x90 2 rfl rfl rfl (by decide)

theorem m6502Bcs (x : Byte) : Statement (.m6502Bcs x) := of_row .m6502 0xB0 2 rfl rfl rfl (by decide)

theorem m6502Bne (x : Byte) : Statement (.m6502Bne x) := of_row .m6502 0xD0 2 rfl rfl rfl (by decide)

theorem m6502Beq (x : Byte) : Statement (.m6502Beq x) := of_row .m6502 0xF0 2 rfl rfl rfl (by decide)

theorem m6502Jmp (m : Mode65.Jmp) : Statement (.m6502Jmp m) :=
  match m with
  | .abs _ => of_row .m6502 0x4C 3 rfl rfl rfl (by decide)
  | .ind _ => of_row .m6502 0x6C 3 rfl rfl rfl (by decide)

theorem m6502Jsr (x : Word) : Statement (.m6502Jsr x) := of_row .m6502 0x20 3 rfl rfl rfl (by decide)

theorem m6502Rts : Statement .m6502Rts := of_row .m6502 0x60 1 rfl rfl rfl (by decide)

theorem m6502Rti : Statement .m6502Rti := of_row .m6502 0x40 1 rfl rfl rfl (by decide)

theorem m6502Brk : Statement .m6502Brk := of_row .m6502 0x00 1 rfl rfl rfl (by decide)

theorem m6502Pha : Statement .m6502Pha := of_row .m6502 0x48 1 rfl rfl rfl (by decide)

theorem m6502Php : Statement .m6502Php := of_row .m6502 0x08 1 rfl rfl rfl (by decide)

theorem m6502Pla : Statement .m6502Pla := of_row .m6502 0x68 1 rfl rfl rfl (by decide)

theorem m6502Plp : Statement .m6502Plp := of_row .m6502 0x28 1 rfl rfl rfl (by decide)

theorem m6502Clc : Statement .m6502Clc := of_row .m6502 0x18 1 rfl rfl rfl (by decide)

theorem m6502Sec : Statement .m6502Sec := of_row .m6502 0x38 1 rfl rfl rfl (by decide)

theorem m6502Cli : Statement .m6502Cli := of_row .m6502 0x58 1 rfl rfl rfl (by decide)

theorem m6502Sei : Statement .m6502Sei := of_row .m6502 0x78 1 rfl rfl rfl (by decide)

theorem m6502Cld : Statement .m6502Cld := of_row .m6502 0xD8 1 rfl rfl rfl (by decide)

theorem m6502Sed : Statement .m6502Sed := of_row .m6502 0xF8 1 rfl rfl rfl (by decide)

theorem m6502Clv : Statement .m6502Clv := of_row .m6502 0xB8 1 rfl rfl rfl (by decide)

theorem m6502Nop : Statement .m6502Nop := of_row .m6502 0xEA 1 rfl rfl rfl (by decide)

theorem m6800Ldaa (m : Mode68.Read) : Statement (.m6800Ldaa m) :=
  match m with
  | .imm _ => of_row .m6800 0x86 2 rfl rfl rfl (by decide)
  | .dir _ => of_row .m6800 0x96 2 rfl rfl rfl (by decide)
  | .idx _ => of_row .m6800 0xA6 2 rfl rfl rfl (by decide)
  | .ext _ => of_row .m6800 0xB6 3 rfl rfl rfl (by decide)

theorem m6800Ldab (m : Mode68.Read) : Statement (.m6800Ldab m) :=
  match m with
  | .imm _ => of_row .m6800 0xC6 2 rfl rfl rfl (by decide)
  | .dir _ => of_row .m6800 0xD6 2 rfl rfl rfl (by decide)
  | .idx _ => of_row .m6800 0xE6 2 rfl rfl rfl (by decide)
  | .ext _ => of_row .m6800 0xF6 3 rfl rfl rfl (by decide)

theorem m6800Staa (m : Mode68.Store) : Statement (.m6800Staa m) :=
  match m with
  | .dir _ => of_row .m6800 0x97 2 rfl rfl rfl (by decide)
  | .idx _ => of_row .m6800 0xA7 2 rfl rfl rfl (by decide)
  | .ext _ => of_row .m6800 0xB7 3 rfl rfl rfl (by decide)

theorem m6800Stab (m : Mode68.Store) : Statement (.m6800Stab m) :=
  match m with
  | .dir _ => of_row .m6800 0xD7 2 rfl rfl rfl (by decide)
  | .idx _ => of_row .m6800 0xE7 2 rfl rfl rfl (by decide)
  | .ext _ => of_row .m6800 0xF7 3 rfl rfl rfl (by decide)

theorem m6800Lds (m : Mode68.Read16) : Statement (.m6800Lds m) :=
  match m with
  | .imm16 _ => of_row .m6800 0x8E 3 rfl rfl rfl (by decide)
  | .dir _ => of_row .m6800 0x9E 2 rfl rfl rfl (by decide)
  | .idx _ => of_row .m6800 0xAE 2 rfl rfl rfl (by decide)
  | .ext _ => of_row .m6800 0xBE 3 rfl rfl rfl (by decide)

theorem m6800Ldx (m : Mode68.Read16) : Statement (.m6800Ldx m) :=
  match m with
  | .imm16 _ => of_row .m6800 0xCE 3 rfl rfl rfl (by decide)
  | .dir _ => of_row .m6800 0xDE 2 rfl rfl rfl (by decide)
  | .idx _ => of_row .m6800 0xEE 2 rfl rfl rfl (by decide)
  | .ext _ => of_row .m6800 0xFE 3 rfl rfl rfl (by decide)

theorem m6800Sts (m : Mode68.Store) : Statement (.m6800Sts m) :=
  match m with
  | .dir _ => of_row .m6800 0x9F 2 rfl rfl rfl (by decide)
  | .idx _ => of_row .m6800 0xAF 2 rfl rfl rfl (by decide)
  | .ext _ => of_row .m6800 0xBF 3 rfl rfl rfl (by decide)

theorem m6800Stx (m : Mode68.Store) : Statement (.m6800Stx m) :=
  match m with
  | .dir _ => of_row .m6800 0xDF 2 rfl rfl rfl (by decide)
  | .idx _ => of_row .m6800 0xEF 2 rfl rfl rfl (by decide)
  | .ext _ => of_row .m6800 0xFF 3 rfl rfl rfl (by decide)

theorem m6800Tab : Statement .m6800Tab := of_row .m6800 0x16 1 rfl rfl rfl (by decide)

theorem m6800Tba : Statement .m6800Tba := of_row .m6800 0x17 1 rfl rfl rfl (by decide)

theorem m6800Tap : Statement .m6800Tap := of_row .m6800 0x06 1 rfl rfl rfl (by decide)

theorem m6800Tpa : Statement .m6800Tpa := of_row .m6800 0x07 1 rfl rfl rfl (by decide)

theorem m6800Tsx : Statement .m6800Tsx := of_row .m6800 0x30 1 rfl rfl rfl (by decide)

theorem m6800Txs : Statement .m6800Txs := of_row .m6800 0x35 1 rfl rfl rfl (by decide)

theorem m6800Psha : Statement .m6800Psha := of_row .m6800 0x36 1 rfl rfl rfl (by decide)

theorem m6800Pshb : Statement .m6800Pshb := of_row .m6800 0x37 1 rfl rfl rfl (by decide)

theorem m6800Pula : Statement .m6800Pula := of_row .m6800 0x32 1 rfl rfl rfl (by decide)

theorem m6800Pulb : Statement .m6800Pulb := of_row .m6800 0x33 1 rfl rfl rfl (by decide)

theorem m6800Inx : Statement .m6800Inx := of_row .m6800 0x08 1 rfl rfl rfl (by decide)

theorem m6800Dex : Statement .m6800Dex := of_row .m6800 0x09 1 rfl rfl rfl (by decide)

theorem m6800Ins : Statement .m6800Ins := of_row .m6800 0x31 1 rfl rfl rfl (by decide)

theorem m6800Des : Statement .m6800Des := of_row .m6800 0x34 1 rfl rfl rfl (by decide)

theorem m6800Adda (m : Mode68.Read) : Statement (.m6800Adda m) :=
  match m with
  | .imm _ => of_row .m6800 0x8B 2 rfl rfl rfl (by decide)
  | .dir _ => of_row .m6800 0x9B 2 rfl rfl rfl (by decide)
  | .idx _ => of_row .m6800 0xAB 2 rfl rfl rfl (by decide)
  | .ext _ => of_row .m6800 0xBB 3 rfl rfl rfl (by decide)

theorem m6800Addb (m : Mode68.Read) : Statement (.m6800Addb m) :=
  match m with
  | .imm _ => of_row .m6800 0xCB 2 rfl rfl rfl (by decide)
  | .dir _ => of_row .m6800 0xDB 2 rfl rfl rfl (by decide)
  | .idx _ => of_row .m6800 0xEB 2 rfl rfl rfl (by decide)
  | .ext _ => of_row .m6800 0xFB 3 rfl rfl rfl (by decide)

theorem m6800Adca (m : Mode68.Read) : Statement (.m6800Adca m) :=
  match m with
  | .imm _ => of_row .m6800 0x89 2 rfl rfl rfl (by decide)
  | .dir _ => of_row .m6800 0x99 2 rfl rfl rfl (by decide)
  | .idx _ => of_row .m6800 0xA9 2 rfl rfl rfl (by decide)
  | .ext _ => of_row .m6800 0xB9 3 rfl rfl rfl (by decide)

theorem m6800Adcb (m : Mode68.Read) : Statement (.m6800Adcb m) :=
  match m with
  | .imm _ => of_row .m6800 0xC9 2 rfl rfl rfl (by decide)
  | .dir _ => of_row .m6800 0xD9 2 rfl rfl rfl (by decide)
  | .idx _ => of_row .m6800 0xE9 2 rfl rfl rfl (by decide)
  | .ext _ => of_row .m6800 0xF9 3 rfl rfl rfl (by decide)

theorem m6800Aba : Statement .m6800Aba := of_row .m6800 0x1B 1 rfl rfl rfl (by decide)

theorem m6800Suba (m : Mode68.Read) : Statement (.m6800Suba m) :=
  match m with
  | .imm _ => of_row .m6800 0x80 2 rfl rfl rfl (by decide)
  | .dir _ => of_row .m6800 0x90 2 rfl rfl rfl (by decide)
  | .idx _ => of_row .m6800 0xA0 2 rfl rfl rfl (by decide)
  | .ext _ => of_row .m6800 0xB0 3 rfl rfl rfl (by decide)

theorem m6800Subb (m : Mode68.Read) : Statement (.m6800Subb m) :=
  match m with
  | .imm _ => of_row .m6800 0xC0 2 rfl rfl rfl (by decide)
  | .dir _ => of_row .m6800 0xD0 2 rfl rfl rfl (by decide)
  | .idx _ => of_row .m6800 0xE0 2 rfl rfl rfl (by decide)
  | .ext _ => of_row .m6800 0xF0 3 rfl rfl rfl (by decide)

theorem m6800Sbca (m : Mode68.Read) : Statement (.m6800Sbca m) :=
  match m with
  | .imm _ => of_row .m6800 0x82 2 rfl rfl rfl (by decide)
  | .dir _ => of_row .m6800 0x92 2 rfl rfl rfl (by decide)
  | .idx _ => of_row .m6800 0xA2 2 rfl rfl rfl (by decide)
  | .ext _ => of_row .m6800 0xB2 3 rfl rfl rfl (by decide)

theorem m6800Sbcb (m : Mode68.Read) : Statement (.m6800Sbcb m) :=
  match m with
  | .imm _ => of_row .m6800 0xC2 2 rfl rfl rfl (by decide)
  | .dir _ => of_row .m6800 0xD2 2 rfl rfl rfl (by decide)
  | .idx _ => of_row .m6800 0xE2 2 rfl rfl rfl (by decide)
  | .ext _ => of_row .m6800 0xF2 3 rfl rfl rfl (by decide)

theorem m6800Sba : Statement .m6800Sba := of_row .m6800 0x10 1 rfl rfl rfl (by decide)

theorem m6800Cmpa (m : Mode68.Read) : Statement (.m6800Cmpa m) :=
  match m with
  | .imm _ => of_row .m6800 0x81 2 rfl rfl rfl (by decide)
  | .dir _ => of_row .m6800 0x91 2 rfl rfl rfl (by decide)
  | .idx _ => of_row .m6800 0xA1 2 rfl rfl rfl (by decide)
  | .ext _ => of_row .m6800 0xB1 3 rfl rfl rfl (by decide)

theorem m6800Cmpb (m : Mode68.Read) : Statement (.m6800Cmpb m) :=
  match m with
  | .imm _ => of_row .m6800 0xC1 2 rfl rfl rfl (by decide)
  | .dir _ => of_row .m6800 0xD1 2 rfl rfl rfl (by decide)
  | .idx _ => of_row .m6800 0xE1 2 rfl rfl rfl (by decide)
  | .ext _ => of_row .m6800 0xF1 3 rfl rfl rfl (by decide)

theorem m6800Cba : Statement .m6800Cba := of_row .m6800 0x11 1 rfl rfl rfl (by decide)

theorem m6800Cpx (m : Mode68.Read16) : Statement (.m6800Cpx m) :=
  match m with
  | .imm16 _ => of_row .m6800 0x8C 3 rfl rfl rfl (by decide)
  | .dir _ => of_row .m6800 0x9C 2 rfl rfl rfl (by decide)
  | .idx _ => of_row .m6800 0xAC 2 rfl rfl rfl (by decide)
  | .ext _ => of_row .m6800 0xBC 3 rfl rfl rfl (by decide)

theorem m6800Anda (m : Mode68.Read) : Statement (.m6800Anda m) :=
  match m with
  | .imm _ => of_row .m6800 0x84 2 rfl rfl rfl (by decide)
  | .dir _ => of_row .m6800 0x94 2 rfl rfl rfl (by decide)
  | .idx _ => of_row .m6800 0xA4 2 rfl rfl rfl (by decide)
  | .ext _ => of_row .m6800 0xB4 3 rfl rfl rfl (by decide)

theorem m6800Andb (m : Mode68.Read) : Statement (.m6800Andb m) :=
  match m with
  | .imm _ => of_row .m6800 0xC4 2 rfl rfl rfl (by decide)
  | .dir _ => of_row .m6800 0xD4 2 rfl rfl rfl (by decide)
  | .idx _ => of_row .m6800 0xE4 2 rfl rfl rfl (by decide)
  | .ext _ => of_row .m6800 0xF4 3 rfl rfl rfl (by decide)

theorem m6800Bita (m : Mode68.Read) : Statement (.m6800Bita m) :=
  match m with
  | .imm _ => of_row .m6800 0x85 2 rfl rfl rfl (by decide)
  | .dir _ => of_row .m6800 0x95 2 rfl rfl rfl (by decide)
  | .idx _ => of_row .m6800 0xA5 2 rfl rfl rfl (by decide)
  | .ext _ => of_row .m6800 0xB5 3 rfl rfl rfl (by decide)

theorem m6800Bitb (m : Mode68.Read) : Statement (.m6800Bitb m) :=
  match m with
  | .imm _ => of_row .m6800 0xC5 2 rfl rfl rfl (by decide)
  | .dir _ => of_row .m6800 0xD5 2 rfl rfl rfl (by decide)
  | .idx _ => of_row .m6800 0xE5 2 rfl rfl rfl (by decide)
  | .ext _ => of_row .m6800 0xF5 3 rfl rfl rfl (by decide)

theorem m6800Eora (m : Mode68.Read) : Statement (.m6800Eora m) :=
  match m with
  | .imm _ => of_row .m6800 0x88 2 rfl rfl rfl (by decide)
  | .dir _ => of_row .m6800 0x98 2 rfl rfl rfl (by decide)
  | .idx _ => of_row .m6800 0xA8 2 rfl rfl rfl (by decide)
  | .ext _ => of_row .m6800 0xB8 3 rfl rfl rfl (by decide)

theorem m6800Eorb (m : Mode68.Read) : Statement (.m6800Eorb m) :=
  match m with
  | .imm _ => of_row .m6800 0xC8 2 rfl rfl rfl (by decide)
  | .dir _ => of_row .m6800 0xD8 2 rfl rfl rfl (by decide)
  | .idx _ => of_row .m6800 0xE8 2 rfl rfl rfl (by decide)
  | .ext _ => of_row .m6800 0xF8 3 rfl rfl rfl (by decide)

theorem m6800Oraa (m : Mode68.Read) : Statement (.m6800Oraa m) :=
  match m with
  | .imm _ => of_row .m6800 0x8A 2 rfl rfl rfl (by decide)
  | .dir _ => of_row .m6800 0x9A 2 rfl rfl rfl (by decide)
  | .idx _ => of_row .m6800 0xAA 2 rfl rfl rfl (by decide)
  | .ext _ => of_row .m6800 0xBA 3 rfl rfl rfl (by decide)

theorem m6800Orab (m : Mode68.Read) : Statement (.m6800Orab m) :=
  match m with
  | .imm _ => of_row .m6800 0xCA 2 rfl rfl rfl (by decide)
  | .dir _ => of_row .m6800 0xDA 2 rfl rfl rfl (by decide)
  | .idx _ => of_row .m6800 0xEA 2 rfl rfl rfl (by decide)
  | .ext _ => of_row .m6800 0xFA 3 rfl rfl rfl (by decide)

theorem m6800Daa : Statement .m6800Daa := of_row .m6800 0x19 1 rfl rfl rfl (by decide)

theorem m6800Nega : Statement .m6800Nega := of_row .m6800 0x40 1 rfl rfl rfl (by decide)

theorem m6800Negb : Statement .m6800Negb := of_row .m6800 0x50 1 rfl rfl rfl (by decide)

theorem m6800Neg (m : Mode68.Mem) : Statement (.m6800Neg m) :=
  match m with
  | .idx _ => of_row .m6800 0x60 2 rfl rfl rfl (by decide)
  | .ext _ => of_row .m6800 0x70 3 rfl rfl rfl (by decide)

theorem m6800Coma : Statement .m6800Coma := of_row .m6800 0x43 1 rfl rfl rfl (by decide)

theorem m6800Comb : Statement .m6800Comb := of_row .m6800 0x53 1 rfl rfl rfl (by decide)

theorem m6800Com (m : Mode68.Mem) : Statement (.m6800Com m) :=
  match m with
  | .idx _ => of_row .m6800 0x63 2 rfl rfl rfl (by decide)
  | .ext _ => of_row .m6800 0x73 3 rfl rfl rfl (by decide)

theorem m6800Clra : Statement .m6800Clra := of_row .m6800 0x4F 1 rfl rfl rfl (by decide)

theorem m6800Clrb : Statement .m6800Clrb := of_row .m6800 0x5F 1 rfl rfl rfl (by decide)

theorem m6800Clr (m : Mode68.Mem) : Statement (.m6800Clr m) :=
  match m with
  | .idx _ => of_row .m6800 0x6F 2 rfl rfl rfl (by decide)
  | .ext _ => of_row .m6800 0x7F 3 rfl rfl rfl (by decide)

theorem m6800Tsta : Statement .m6800Tsta := of_row .m6800 0x4D 1 rfl rfl rfl (by decide)

theorem m6800Tstb : Statement .m6800Tstb := of_row .m6800 0x5D 1 rfl rfl rfl (by decide)

theorem m6800Tst (m : Mode68.Mem) : Statement (.m6800Tst m) :=
  match m with
  | .idx _ => of_row .m6800 0x6D 2 rfl rfl rfl (by decide)
  | .ext _ => of_row .m6800 0x7D 3 rfl rfl rfl (by decide)

theorem m6800Inca : Statement .m6800Inca := of_row .m6800 0x4C 1 rfl rfl rfl (by decide)

theorem m6800Incb : Statement .m6800Incb := of_row .m6800 0x5C 1 rfl rfl rfl (by decide)

theorem m6800Inc (m : Mode68.Mem) : Statement (.m6800Inc m) :=
  match m with
  | .idx _ => of_row .m6800 0x6C 2 rfl rfl rfl (by decide)
  | .ext _ => of_row .m6800 0x7C 3 rfl rfl rfl (by decide)

theorem m6800Deca : Statement .m6800Deca := of_row .m6800 0x4A 1 rfl rfl rfl (by decide)

theorem m6800Decb : Statement .m6800Decb := of_row .m6800 0x5A 1 rfl rfl rfl (by decide)

theorem m6800Dec (m : Mode68.Mem) : Statement (.m6800Dec m) :=
  match m with
  | .idx _ => of_row .m6800 0x6A 2 rfl rfl rfl (by decide)
  | .ext _ => of_row .m6800 0x7A 3 rfl rfl rfl (by decide)

theorem m6800Asla : Statement .m6800Asla := of_row .m6800 0x48 1 rfl rfl rfl (by decide)

theorem m6800Aslb : Statement .m6800Aslb := of_row .m6800 0x58 1 rfl rfl rfl (by decide)

theorem m6800Asl (m : Mode68.Mem) : Statement (.m6800Asl m) :=
  match m with
  | .idx _ => of_row .m6800 0x68 2 rfl rfl rfl (by decide)
  | .ext _ => of_row .m6800 0x78 3 rfl rfl rfl (by decide)

theorem m6800Asra : Statement .m6800Asra := of_row .m6800 0x47 1 rfl rfl rfl (by decide)

theorem m6800Asrb : Statement .m6800Asrb := of_row .m6800 0x57 1 rfl rfl rfl (by decide)

theorem m6800Asr (m : Mode68.Mem) : Statement (.m6800Asr m) :=
  match m with
  | .idx _ => of_row .m6800 0x67 2 rfl rfl rfl (by decide)
  | .ext _ => of_row .m6800 0x77 3 rfl rfl rfl (by decide)

theorem m6800Lsra : Statement .m6800Lsra := of_row .m6800 0x44 1 rfl rfl rfl (by decide)

theorem m6800Lsrb : Statement .m6800Lsrb := of_row .m6800 0x54 1 rfl rfl rfl (by decide)

theorem m6800Lsr (m : Mode68.Mem) : Statement (.m6800Lsr m) :=
  match m with
  | .idx _ => of_row .m6800 0x64 2 rfl rfl rfl (by decide)
  | .ext _ => of_row .m6800 0x74 3 rfl rfl rfl (by decide)

theorem m6800Rola : Statement .m6800Rola := of_row .m6800 0x49 1 rfl rfl rfl (by decide)

theorem m6800Rolb : Statement .m6800Rolb := of_row .m6800 0x59 1 rfl rfl rfl (by decide)

theorem m6800Rol (m : Mode68.Mem) : Statement (.m6800Rol m) :=
  match m with
  | .idx _ => of_row .m6800 0x69 2 rfl rfl rfl (by decide)
  | .ext _ => of_row .m6800 0x79 3 rfl rfl rfl (by decide)

theorem m6800Rora : Statement .m6800Rora := of_row .m6800 0x46 1 rfl rfl rfl (by decide)

theorem m6800Rorb : Statement .m6800Rorb := of_row .m6800 0x56 1 rfl rfl rfl (by decide)

theorem m6800Ror (m : Mode68.Mem) : Statement (.m6800Ror m) :=
  match m with
  | .idx _ => of_row .m6800 0x66 2 rfl rfl rfl (by decide)
  | .ext _ => of_row .m6800 0x76 3 rfl rfl rfl (by decide)

theorem m6800Bra (x : Byte) : Statement (.m6800Bra x) := of_row .m6800 0x20 2 rfl rfl rfl (by decide)

theorem m6800Bhi (x : Byte) : Statement (.m6800Bhi x) := of_row .m6800 0x22 2 rfl rfl rfl (by decide)

theorem m6800Bls (x : Byte) : Statement (.m6800Bls x) := of_row .m6800 0x23 2 rfl rfl rfl (by decide)

theorem m6800Bcc (x : Byte) : Statement (.m6800Bcc x) := of_row .m6800 0x24 2 rfl rfl rfl (by decide)

theorem m6800Bcs (x : Byte) : Statement (.m6800Bcs x) := of_row .m6800 0x25 2 rfl rfl rfl (by decide)

theorem m6800Bne (x : Byte) : Statement (.m6800Bne x) := of_row .m6800 0x26 2 rfl rfl rfl (by decide)

theorem m6800Beq (x : Byte) : Statement (.m6800Beq x) := of_row .m6800 0x27 2 rfl rfl rfl (by decide)

theorem m6800Bvc (x : Byte) : Statement (.m6800Bvc x) := of_row .m6800 0x28 2 rfl rfl rfl (by decide)

theorem m6800Bvs (x : Byte) : Statement (.m6800Bvs x) := of_row .m6800 0x29 2 rfl rfl rfl (by decide)

theorem m6800Bpl (x : Byte) : Statement (.m6800Bpl x) := of_row .m6800 0x2A 2 rfl rfl rfl (by decide)

theorem m6800Bmi (x : Byte) : Statement (.m6800Bmi x) := of_row .m6800 0x2B 2 rfl rfl rfl (by decide)

theorem m6800Bge (x : Byte) : Statement (.m6800Bge x) := of_row .m6800 0x2C 2 rfl rfl rfl (by decide)

theorem m6800Blt (x : Byte) : Statement (.m6800Blt x) := of_row .m6800 0x2D 2 rfl rfl rfl (by decide)

theorem m6800Bgt (x : Byte) : Statement (.m6800Bgt x) := of_row .m6800 0x2E 2 rfl rfl rfl (by decide)

theorem m6800Ble (x : Byte) : Statement (.m6800Ble x) := of_row .m6800 0x2F 2 rfl rfl rfl (by decide)

theorem m6800Bsr (x : Byte) : Statement (.m6800Bsr x) := of_row .m6800 0x8D 2 rfl rfl rfl (by decide)

theorem m6800Jmp (m : Mode68.Mem) : Statement (.m6800Jmp m) :=
  match m with
  | .idx _ => of_row .m6800 0x6E 2 rfl rfl rfl (by decide)
  | .ext _ => of_row .m6800 0x7E 3 rfl rfl rfl (by decide)

theorem m6800Jsr (m : Mode68.Mem) : Statement (.m6800Jsr m) :=
  match m with
  | .idx _ => of_row .m6800 0xAD 2 rfl rfl rfl (by decide)
  | .ext _ => of_row .m6800 0xBD 3 rfl rfl rfl (by decide)

theorem m6800Rts : Statement .m6800Rts := of_row .m6800 0x39 1 rfl rfl rfl (by decide)

theorem m6800Rti : Statement .m6800Rti := of_row .m6800 0x3B 1 rfl rfl rfl (by decide)

theorem m6800Swi : Statement .m6800Swi := of_row .m6800 0x3F 1 rfl rfl rfl (by decide)

theorem m6800Wai : Statement .m6800Wai := of_row .m6800 0x3E 1 rfl rfl rfl (by decide)

theorem m6800Nop : Statement .m6800Nop := of_row .m6800 0x01 1 rfl rfl rfl (by decide)

theorem m6800Clc : Statement .m6800Clc := of_row .m6800 0x0C 1 rfl rfl rfl (by decide)

theorem m6800Sec : Statement .m6800Sec := of_row .m6800 0x0D 1 rfl rfl rfl (by decide)

theorem m6800Cli : Statement .m6800Cli := of_row .m6800 0x0E 1 rfl rfl rfl (by decide)

theorem m6800Sei : Statement .m6800Sei := of_row .m6800 0x0F 1 rfl rfl rfl (by decide)

theorem m6800Clv : Statement .m6800Clv := of_row .m6800 0x0A 1 rfl rfl rfl (by decide)

theorem m6800Sev : Statement .m6800Sev := of_row .m6800 0x0B 1 rfl rfl rfl (by decide)

end Sys2Proof.Laws.Length
end

