-- ==== Sys2Proof/Laws/Tick.lean ====
section
/-!
SUPPORT. What a tick can do, said once: which of its branches it takes, and what each leaves.
-/

namespace Sys2Proof.Machine

/-! ### Interrupt selection -/

/-- No interrupt is taken exactly where no NMI is latched and IRQ is low or masked. -/
theorem interruptToTake_eq_none_iff (s : State) :
    interruptToTake s = none ↔ s.nmiPending = false ∧ (s.irqLine = true → s.irqMasked = true) := by
  unfold interruptToTake
  cases s.nmiPending <;> cases s.irqLine <;> cases s.irqMasked <;> decide

/-- An NMI is taken exactly where one is latched. -/
theorem interruptToTake_eq_nmi_iff (s : State) : interruptToTake s = some .nmi ↔ s.nmiPending = true := by
  unfold interruptToTake
  cases s.nmiPending <;> cases s.irqLine <;> cases s.irqMasked <;> decide

/-- An IRQ is taken exactly where none is latched and IRQ is high and not masked. -/
theorem interruptToTake_eq_irq_iff (s : State) :
    interruptToTake s = some .irq ↔ s.nmiPending = false ∧ s.irqLine = true ∧ s.irqMasked = false := by
  unfold interruptToTake
  cases s.nmiPending <;> cases s.irqLine <;> cases s.irqMasked <;> decide

/-! ### The branches of a tick -/

theorem step_of_counting {s : State} (h : 0 < s.remaining) : step s = .next { s with remaining := s.remaining - 1 } :=
  if_pos h

theorem step_of_idle {s : State} (h : s.remaining = 0) : step s = idleTick s := by
  unfold step tick
  rw [if_neg (by omega)]

theorem step_of_fetches {s : State} (h : s.fetches) : step s = fetchAndExecute s := by
  obtain ⟨h0, h⟩ := h
  rw [step_of_idle h0]
  unfold idleTick
  cases hi : s.params.interrupts <;> simp only [hi] at h ⊢
  · have hn : interruptToTake s = none := (interruptToTake_eq_none_iff s).mpr h.2
    unfold servicedTick
    rw [hn, if_neg (by rintro ⟨hp, hh⟩; simp [(h.1 hp).1] at hh), if_neg (by rintro ⟨hp, hw⟩; simp [(h.1 hp).2] at hw)]
  · unfold ignoredTick
    rw [if_neg (by rintro ⟨hp, hw⟩; simp [h hp] at hw)]

/-- A fetch of a byte with no entry. -/
theorem fetchAndExecute_of_lookup_none {s : State} (h : lookup s.profile (s.readByte s.pc) = none) :
    fetchAndExecute s = .fault (.unknownOpcode (s.readByte s.pc) s.pc) := by
  unfold fetchAndExecute State.fetched
  rw [decodeAt_of_lookup_none h]

/-- A fetch of a byte with an entry. -/
theorem fetchAndExecute_of_decoded {s : State} {i : Instr}
    (h : decodeAt s.profile (s.readByte s.pc) (s.readByte (s.pc + 1)) (s.readByte (s.pc + 2)) = some i) :
    fetchAndExecute s =
      if s.params.unimplemented.contains (s.readByte s.pc) then
        .fault (.unimplementedInstruction (s.readByte s.pc) s.pc)
      else exec i s := by
  unfold fetchAndExecute State.fetched
  rw [h]

/-- Everything a tick can do: count down; stand still (a HALT, a wait); wake from a wait; service an interrupt; or fetch. -/
theorem step_cases (s : State) :
    (0 < s.remaining ∧ step s = .next { s with remaining := s.remaining - 1 }) ∨
    (s.remaining = 0 ∧ s.profile = .m6800 ∧ (s.haltLine = true ∨ s.waiting = true) ∧ step s = .next s) ∨
    (∃ k, s.remaining = 0 ∧ s.profile = .m6800 ∧ s.params.interrupts = .serviced ∧ s.haltLine = false ∧
      s.waiting = true ∧ interruptToTake s = some k ∧ step s = .next (wake68 k s)) ∨
    (∃ k, s.remaining = 0 ∧ s.params.interrupts = .serviced ∧ interruptToTake s = some k ∧
      step s = .next (service k s)) ∨
    (s.fetches ∧ step s = fetchAndExecute s) := by
  by_cases h0 : 0 < s.remaining
  · exact .inl ⟨h0, step_of_counting h0⟩
  have hr : s.remaining = 0 := by omega
  refine .inr ?_
  have hs := step_of_idle hr
  unfold idleTick at hs
  cases hi : s.params.interrupts <;> simp only [hi] at hs
  · unfold servicedTick at hs
    split at hs
    · next h => exact .inl ⟨hr, h.1, .inl h.2, hs⟩
    next h1 =>
    split at hs
    · next h =>
      unfold waitTick at hs
      have hh : s.haltLine = false := by cases e : s.haltLine <;> simp_all
      split at hs
      · exact .inl ⟨hr, h.1, .inr h.2, hs⟩
      · next k hk => exact .inr (.inl ⟨k, hr, h.1, rfl, hh, h.2, hk, hs⟩)
    next h2 =>
    split at hs
    · next k hk => exact .inr (.inr (.inl ⟨k, hr, rfl, hk, hs⟩))
    · next hk =>
      refine .inr (.inr (.inr ⟨⟨hr, ?_⟩, hs⟩))
      rw [hi]
      refine ⟨fun hp => ?_, (interruptToTake_eq_none_iff s).mp hk⟩
      constructor
      · cases e : s.haltLine <;> simp_all
      · cases e : s.waiting <;> simp_all
  · unfold ignoredTick at hs
    split at hs
    · next h => exact .inl ⟨hr, h.1, .inr h.2, hs⟩
    · next h =>
      refine .inr (.inr (.inr ⟨⟨hr, ?_⟩, hs⟩))
      rw [hi]
      intro hp
      cases e : s.waiting <;> simp_all

/-! ### What service and a wake leave -/

theorem service_of_m6502 {s : State} (h : s.profile = .m6502) (k : Interrupt) : service k s = service65 k s := by
  unfold service
  rw [h]

theorem service_of_m6800 {s : State} (h : s.profile = .m6800) (k : Interrupt) : service k s = service68 k s := by
  unfold service
  rw [h]

theorem acknowledge_eq (s : State) (k : Interrupt) :
    s.acknowledge k = { s with nmiPending := if k = .nmi then false else s.nmiPending } := by
  cases k <;> rfl

end Sys2Proof.Machine
end

