-- ==== Sys2Proof/Tests/Slice0.lean ====
section
/-!
SUPPORT. The model's own tests. Words and expected results are the spec's: the opcode maps of 30_encoding.md, the vectors
V-<n> and S-<n> of 95_test_vectors.md (a test's name ends in its vector's), and the examples of the instruction rules. The
witnesses at the end show that the hypotheses of each statement of Obligations.lean can be met together.
-/

namespace Sys2Proof.Machine.Tests

open Sys2Proof Sys2Proof.Machine

/-! ### Small states and what is looked at -/

/-- The next state of one step, if it answers one. -/
def after (s : State) : Option State :=
  match step s with
  | .next t => some t
  | _ => none

/-- The next state of one instruction, if it answers one. -/
def ran (i : Instr) (s : State) : Option State :=
  match exec i s with
  | .next t => some t
  | _ => none

/-- The fault of one step, if it ends in one. -/
def faultOf (s : State) : Option Fault :=
  match step s with
  | .fault f => some f
  | _ => none

/-- An Idle M6502 engine at `pc`. -/
def at65 (pc : Word) (c : Config.Params) (r : Regs65) (m : Memory) : State :=
  { State.reset with pc := pc, params := c, m6502 := r, mem := m }

/-- An Idle M6800 engine at `pc`. -/
def at68 (pc : Word) (c : Config.Params) (r : Regs68) (m : Memory) : State :=
  { State.resetOf .m6800 with pc := pc, params := c, m6800 := r, mem := m }

/-- PC, registers, countdown and memory after one step of an M6502 engine. -/
def run65 (pc : Word) (c : Config.Params) (r : Regs65) (m : Memory) : Option (Word × Regs65 × Nat × Memory) :=
  (after (at65 pc c r m)).map (fun t => (t.pc, t.m6502, t.remaining, t.mem))

/-- PC, registers, countdown and memory after one step of an M6800 engine. -/
def run68 (pc : Word) (c : Config.Params) (r : Regs68) (m : Memory) : Option (Word × Regs68 × Nat × Memory) :=
  (after (at68 pc c r m)).map (fun t => (t.pc, t.m6800, t.remaining, t.mem))

/-- Bytes written from an address on. -/
def placed (s : State) (a : Word) : List Byte → State
  | [] => s
  | b :: rest => (placed s (a + 1) rest).writeByte a b

/-- The registers after one instruction, whose bytes stand at 0x0200, of an M6502 engine. -/
def leaves65 (r : Regs65) (bytes : List Byte) : Option Regs65 :=
  (after (placed (at65 0x0200 Config.defaults r []) 0x0200 bytes)).map (fun t => t.m6502)

/-- The registers after one instruction, whose bytes stand at 0x0200, of an M6800 engine. -/
def leaves68 (r : Regs68) (bytes : List Byte) : Option Regs68 :=
  (after (placed (at68 0x0200 Config.defaults r []) 0x0200 bytes)).map (fun t => t.m6800)

/-- An indexed M6800 instruction with offset 5 and IX = 0x0100: the byte at 0x0105, the registers (IX left out) and the
countdown. -/
def indexed68 (r : Regs68) (op v : Byte) : Option (Byte × Regs68 × Nat) :=
  (after ((placed (at68 0x0200 Config.defaults { r with ix := 0x0100 } []) 0x0200 [op, 0x05]).writeByte 0x0105 v)).map
    (fun t => (t.readByte 0x0105, { t.m6800 with ix := 0 }, t.remaining))

/-- PC and the countdown after one instruction of an M6502 engine. -/
def goes65 (pc : Word) (r : Regs65) (bytes : List Byte) : Option (Word × Nat) :=
  (after (placed (at65 pc Config.defaults r []) pc bytes)).map (fun t => (t.pc, t.remaining))

/-- PC and the countdown after one instruction of an M6800 engine. -/
def goes68 (pc : Word) (r : Regs68) (bytes : List Byte) : Option (Word × Nat) :=
  (after (placed (at68 pc Config.defaults r []) pc bytes)).map (fun t => (t.pc, t.remaining))

/-! ### Well-formedness -/

/-- An instruction of the other profile's table is ill-formed, in both directions. -/
theorem test_wellFormed_refuses :
    ¬ WellFormed .m6502 .m6800Daa ∧ ¬ WellFormed .m6800 (.m6502Lda (.inx 0x10)) ∧ ¬ WellFormed .m6502 (.m6800Ldx (.dir 0x10)) ∧
      ¬ WellFormed .m6800 .m6502Brk := by decide

theorem test_wellFormed_accepts :
    WellFormed .m6502 (.m6502Ldx (.zpy 0x10)) ∧ WellFormed .m6800 (.m6800Ldx (.idx 0x10)) := by decide

/-- `exec` refuses it by name. -/
theorem test_exec_refuses_the_other_profile :
    (match exec .m6800Daa State.reset with | .refused r => some r | _ => none) = some Refusal.profileMismatch := by decide

/-! ### Decoding: words from the opcode maps R84 and R85 -/

theorem test_decode_m6502_load_store_1 :
    decodeAt .m6502 0b10101001 0x34 0x00 = some (.m6502Lda (.imm 0x34)) ∧
    decodeAt .m6502 0b10100110 0x34 0x00 = some (.m6502Ldx (.zpg 0x34)) ∧
    decodeAt .m6502 0b10110100 0x34 0x00 = some (.m6502Ldy (.zpx 0x34)) ∧
    decodeAt .m6502 0b10001101 0x34 0x12 = some (.m6502Sta (.abs 0x1234)) ∧
    decodeAt .m6502 0b10010110 0x34 0x00 = some (.m6502Stx (.zpy 0x34)) ∧
    decodeAt .m6502 0b10000100 0x34 0x00 = some (.m6502Sty (.zpg 0x34)) ∧
    decodeAt .m6502 0b10101010 0x00 0x00 = some .m6502Tax ∧
    decodeAt .m6502 0b10101000 0x00 0x00 = some .m6502Tay ∧
    decodeAt .m6502 0b10001010 0x00 0x00 = some .m6502Txa ∧
    decodeAt .m6502 0b10011000 0x00 0x00 = some .m6502Tya ∧
    decodeAt .m6502 0b10111010 0x00 0x00 = some .m6502Tsx ∧
    decodeAt .m6502 0b10011010 0x00 0x00 = some .m6502Txs := by decide

theorem test_decode_m6502_arith_1 :
    decodeAt .m6502 0b01111101 0x34 0x12 = some (.m6502Adc (.abx 0x1234)) ∧
    decodeAt .m6502 0b11111001 0x34 0x12 = some (.m6502Sbc (.aby 0x1234)) ∧
    decodeAt .m6502 0b00100001 0x34 0x00 = some (.m6502And (.inx 0x34)) ∧
    decodeAt .m6502 0b00010001 0x34 0x00 = some (.m6502Ora (.iny 0x34)) ∧
    decodeAt .m6502 0b01011001 0x34 0x12 = some (.m6502Eor (.aby 0x1234)) ∧
    decodeAt .m6502 0b00100100 0x34 0x00 = some (.m6502Bit (.zpg 0x34)) ∧
    decodeAt .m6502 0b11000001 0x34 0x00 = some (.m6502Cmp (.inx 0x34)) ∧
    decodeAt .m6502 0b11100000 0x34 0x00 = some (.m6502Cpx (.imm 0x34)) ∧
    decodeAt .m6502 0b11000100 0x34 0x00 = some (.m6502Cpy (.zpg 0x34)) ∧
    decodeAt .m6502 0b11100110 0x34 0x00 = some (.m6502Inc (.zpg 0x34)) ∧
    decodeAt .m6502 0b11010110 0x34 0x00 = some (.m6502Dec (.zpx 0x34)) ∧
    decodeAt .m6502 0b11101000 0x00 0x00 = some .m6502Inx ∧
    decodeAt .m6502 0b11001000 0x00 0x00 = some .m6502Iny ∧
    decodeAt .m6502 0b11001010 0x00 0x00 = some .m6502Dex ∧
    decodeAt .m6502 0b10001000 0x00 0x00 = some .m6502Dey ∧
    decodeAt .m6502 0b00001010 0x00 0x00 = some (.m6502Asl .acc) := by decide

theorem test_decode_m6502_arith_2 :
    decodeAt .m6502 0b01000110 0x34 0x00 = some (.m6502Lsr (.zpg 0x34)) ∧
    decodeAt .m6502 0b00110110 0x34 0x00 = some (.m6502Rol (.zpx 0x34)) ∧
    decodeAt .m6502 0b01101110 0x34 0x12 = some (.m6502Ror (.abs 0x1234)) := by decide

theorem test_decode_m6502_control_1 :
    decodeAt .m6502 0b00010000 0x34 0x00 = some (.m6502Bpl 0x34) ∧
    decodeAt .m6502 0b00110000 0x34 0x00 = some (.m6502Bmi 0x34) ∧
    decodeAt .m6502 0b01010000 0x34 0x00 = some (.m6502Bvc 0x34) ∧
    decodeAt .m6502 0b01110000 0x34 0x00 = some (.m6502Bvs 0x34) ∧
    decodeAt .m6502 0b10010000 0x34 0x00 = some (.m6502Bcc 0x34) ∧
    decodeAt .m6502 0b10110000 0x34 0x00 = some (.m6502Bcs 0x34) ∧
    decodeAt .m6502 0b11010000 0x34 0x00 = some (.m6502Bne 0x34) ∧
    decodeAt .m6502 0b11110000 0x34 0x00 = some (.m6502Beq 0x34) ∧
    decodeAt .m6502 0b01101100 0x34 0x12 = some (.m6502Jmp (.ind 0x1234)) ∧
    decodeAt .m6502 0b00100000 0x34 0x12 = some (.m6502Jsr 0x1234) ∧
    decodeAt .m6502 0b01100000 0x00 0x00 = some .m6502Rts ∧
    decodeAt .m6502 0b01000000 0x00 0x00 = some .m6502Rti ∧
    decodeAt .m6502 0b00000000 0x00 0x00 = some .m6502Brk ∧
    decodeAt .m6502 0b01001000 0x00 0x00 = some .m6502Pha ∧
    decodeAt .m6502 0b00001000 0x00 0x00 = some .m6502Php ∧
    decodeAt .m6502 0b01101000 0x00 0x00 = some .m6502Pla := by decide

theorem test_decode_m6502_control_2 :
    decodeAt .m6502 0b00101000 0x00 0x00 = some .m6502Plp ∧
    decodeAt .m6502 0b00011000 0x00 0x00 = some .m6502Clc ∧
    decodeAt .m6502 0b00111000 0x00 0x00 = some .m6502Sec ∧
    decodeAt .m6502 0b01011000 0x00 0x00 = some .m6502Cli ∧
    decodeAt .m6502 0b01111000 0x00 0x00 = some .m6502Sei ∧
    decodeAt .m6502 0b11011000 0x00 0x00 = some .m6502Cld ∧
    decodeAt .m6502 0b11111000 0x00 0x00 = some .m6502Sed ∧
    decodeAt .m6502 0b10111000 0x00 0x00 = some .m6502Clv ∧
    decodeAt .m6502 0b11101010 0x00 0x00 = some .m6502Nop := by decide

theorem test_decode_m6800_load_store_1 :
    decodeAt .m6800 0b10000110 0x34 0x00 = some (.m6800Ldaa (.imm 0x34)) ∧
    decodeAt .m6800 0b11010110 0x34 0x00 = some (.m6800Ldab (.dir 0x34)) ∧
    decodeAt .m6800 0b10100111 0x34 0x00 = some (.m6800Staa (.idx 0x34)) ∧
    decodeAt .m6800 0b11110111 0x12 0x34 = some (.m6800Stab (.ext 0x1234)) ∧
    decodeAt .m6800 0b10001110 0x12 0x34 = some (.m6800Lds (.imm16 0x1234)) ∧
    decodeAt .m6800 0b11011110 0x34 0x00 = some (.m6800Ldx (.dir 0x34)) ∧
    decodeAt .m6800 0b10111111 0x12 0x34 = some (.m6800Sts (.ext 0x1234)) ∧
    decodeAt .m6800 0b11011111 0x34 0x00 = some (.m6800Stx (.dir 0x34)) ∧
    decodeAt .m6800 0b00010110 0x00 0x00 = some .m6800Tab ∧
    decodeAt .m6800 0b00010111 0x00 0x00 = some .m6800Tba ∧
    decodeAt .m6800 0b00000110 0x00 0x00 = some .m6800Tap ∧
    decodeAt .m6800 0b00000111 0x00 0x00 = some .m6800Tpa ∧
    decodeAt .m6800 0b00110000 0x00 0x00 = some .m6800Tsx ∧
    decodeAt .m6800 0b00110101 0x00 0x00 = some .m6800Txs ∧
    decodeAt .m6800 0b00110110 0x00 0x00 = some .m6800Psha ∧
    decodeAt .m6800 0b00110111 0x00 0x00 = some .m6800Pshb := by decide

theorem test_decode_m6800_load_store_2 :
    decodeAt .m6800 0b00110010 0x00 0x00 = some .m6800Pula ∧
    decodeAt .m6800 0b00110011 0x00 0x00 = some .m6800Pulb ∧
    decodeAt .m6800 0b00001000 0x00 0x00 = some .m6800Inx ∧
    decodeAt .m6800 0b00001001 0x00 0x00 = some .m6800Dex ∧
    decodeAt .m6800 0b00110001 0x00 0x00 = some .m6800Ins ∧
    decodeAt .m6800 0b00110100 0x00 0x00 = some .m6800Des := by decide

theorem test_decode_m6800_arith_1 :
    decodeAt .m6800 0b10101011 0x34 0x00 = some (.m6800Adda (.idx 0x34)) ∧
    decodeAt .m6800 0b11111011 0x12 0x34 = some (.m6800Addb (.ext 0x1234)) ∧
    decodeAt .m6800 0b10001001 0x34 0x00 = some (.m6800Adca (.imm 0x34)) ∧
    decodeAt .m6800 0b11011001 0x34 0x00 = some (.m6800Adcb (.dir 0x34)) ∧
    decodeAt .m6800 0b00011011 0x00 0x00 = some .m6800Aba ∧
    decodeAt .m6800 0b10100000 0x34 0x00 = some (.m6800Suba (.idx 0x34)) ∧
    decodeAt .m6800 0b11110000 0x12 0x34 = some (.m6800Subb (.ext 0x1234)) ∧
    decodeAt .m6800 0b10000010 0x34 0x00 = some (.m6800Sbca (.imm 0x34)) ∧
    decodeAt .m6800 0b11010010 0x34 0x00 = some (.m6800Sbcb (.dir 0x34)) ∧
    decodeAt .m6800 0b00010000 0x00 0x00 = some .m6800Sba ∧
    decodeAt .m6800 0b10100001 0x34 0x00 = some (.m6800Cmpa (.idx 0x34)) ∧
    decodeAt .m6800 0b11110001 0x12 0x34 = some (.m6800Cmpb (.ext 0x1234)) ∧
    decodeAt .m6800 0b00010001 0x00 0x00 = some .m6800Cba ∧
    decodeAt .m6800 0b10101100 0x34 0x00 = some (.m6800Cpx (.idx 0x34)) ∧
    decodeAt .m6800 0b10000100 0x34 0x00 = some (.m6800Anda (.imm 0x34)) ∧
    decodeAt .m6800 0b11010100 0x34 0x00 = some (.m6800Andb (.dir 0x34)) := by decide

theorem test_decode_m6800_arith_2 :
    decodeAt .m6800 0b10100101 0x34 0x00 = some (.m6800Bita (.idx 0x34)) ∧
    decodeAt .m6800 0b11110101 0x12 0x34 = some (.m6800Bitb (.ext 0x1234)) ∧
    decodeAt .m6800 0b10001000 0x34 0x00 = some (.m6800Eora (.imm 0x34)) ∧
    decodeAt .m6800 0b11011000 0x34 0x00 = some (.m6800Eorb (.dir 0x34)) ∧
    decodeAt .m6800 0b10101010 0x34 0x00 = some (.m6800Oraa (.idx 0x34)) ∧
    decodeAt .m6800 0b11111010 0x12 0x34 = some (.m6800Orab (.ext 0x1234)) ∧
    decodeAt .m6800 0b00011001 0x00 0x00 = some .m6800Daa ∧
    decodeAt .m6800 0b01000000 0x00 0x00 = some .m6800Nega ∧
    decodeAt .m6800 0b01010000 0x00 0x00 = some .m6800Negb ∧
    decodeAt .m6800 0b01100000 0x34 0x00 = some (.m6800Neg (.idx 0x34)) ∧
    decodeAt .m6800 0b01000011 0x00 0x00 = some .m6800Coma ∧
    decodeAt .m6800 0b01010011 0x00 0x00 = some .m6800Comb ∧
    decodeAt .m6800 0b01110011 0x12 0x34 = some (.m6800Com (.ext 0x1234)) ∧
    decodeAt .m6800 0b01001111 0x00 0x00 = some .m6800Clra ∧
    decodeAt .m6800 0b01011111 0x00 0x00 = some .m6800Clrb ∧
    decodeAt .m6800 0b01101111 0x34 0x00 = some (.m6800Clr (.idx 0x34)) := by decide

theorem test_decode_m6800_arith_3 :
    decodeAt .m6800 0b01001101 0x00 0x00 = some .m6800Tsta ∧
    decodeAt .m6800 0b01011101 0x00 0x00 = some .m6800Tstb ∧
    decodeAt .m6800 0b01111101 0x12 0x34 = some (.m6800Tst (.ext 0x1234)) ∧
    decodeAt .m6800 0b01001100 0x00 0x00 = some .m6800Inca ∧
    decodeAt .m6800 0b01011100 0x00 0x00 = some .m6800Incb ∧
    decodeAt .m6800 0b01101100 0x34 0x00 = some (.m6800Inc (.idx 0x34)) ∧
    decodeAt .m6800 0b01001010 0x00 0x00 = some .m6800Deca ∧
    decodeAt .m6800 0b01011010 0x00 0x00 = some .m6800Decb ∧
    decodeAt .m6800 0b01111010 0x12 0x34 = some (.m6800Dec (.ext 0x1234)) ∧
    decodeAt .m6800 0b01001000 0x00 0x00 = some .m6800Asla ∧
    decodeAt .m6800 0b01011000 0x00 0x00 = some .m6800Aslb ∧
    decodeAt .m6800 0b01101000 0x34 0x00 = some (.m6800Asl (.idx 0x34)) ∧
    decodeAt .m6800 0b01000111 0x00 0x00 = some .m6800Asra ∧
    decodeAt .m6800 0b01010111 0x00 0x00 = some .m6800Asrb ∧
    decodeAt .m6800 0b01110111 0x12 0x34 = some (.m6800Asr (.ext 0x1234)) ∧
    decodeAt .m6800 0b01000100 0x00 0x00 = some .m6800Lsra := by decide

theorem test_decode_m6800_arith_4 :
    decodeAt .m6800 0b01010100 0x00 0x00 = some .m6800Lsrb ∧
    decodeAt .m6800 0b01100100 0x34 0x00 = some (.m6800Lsr (.idx 0x34)) ∧
    decodeAt .m6800 0b01001001 0x00 0x00 = some .m6800Rola ∧
    decodeAt .m6800 0b01011001 0x00 0x00 = some .m6800Rolb ∧
    decodeAt .m6800 0b01111001 0x12 0x34 = some (.m6800Rol (.ext 0x1234)) ∧
    decodeAt .m6800 0b01000110 0x00 0x00 = some .m6800Rora ∧
    decodeAt .m6800 0b01010110 0x00 0x00 = some .m6800Rorb ∧
    decodeAt .m6800 0b01100110 0x34 0x00 = some (.m6800Ror (.idx 0x34)) := by decide

theorem test_decode_m6800_control_1 :
    decodeAt .m6800 0b00100000 0x34 0x00 = some (.m6800Bra 0x34) ∧
    decodeAt .m6800 0b00100010 0x34 0x00 = some (.m6800Bhi 0x34) ∧
    decodeAt .m6800 0b00100011 0x34 0x00 = some (.m6800Bls 0x34) ∧
    decodeAt .m6800 0b00100100 0x34 0x00 = some (.m6800Bcc 0x34) ∧
    decodeAt .m6800 0b00100101 0x34 0x00 = some (.m6800Bcs 0x34) ∧
    decodeAt .m6800 0b00100110 0x34 0x00 = some (.m6800Bne 0x34) ∧
    decodeAt .m6800 0b00100111 0x34 0x00 = some (.m6800Beq 0x34) ∧
    decodeAt .m6800 0b00101000 0x34 0x00 = some (.m6800Bvc 0x34) ∧
    decodeAt .m6800 0b00101001 0x34 0x00 = some (.m6800Bvs 0x34) ∧
    decodeAt .m6800 0b00101010 0x34 0x00 = some (.m6800Bpl 0x34) ∧
    decodeAt .m6800 0b00101011 0x34 0x00 = some (.m6800Bmi 0x34) ∧
    decodeAt .m6800 0b00101100 0x34 0x00 = some (.m6800Bge 0x34) ∧
    decodeAt .m6800 0b00101101 0x34 0x00 = some (.m6800Blt 0x34) ∧
    decodeAt .m6800 0b00101110 0x34 0x00 = some (.m6800Bgt 0x34) ∧
    decodeAt .m6800 0b00101111 0x34 0x00 = some (.m6800Ble 0x34) ∧
    decodeAt .m6800 0b10001101 0x34 0x00 = some (.m6800Bsr 0x34) := by decide

theorem test_decode_m6800_control_2 :
    decodeAt .m6800 0b01111110 0x12 0x34 = some (.m6800Jmp (.ext 0x1234)) ∧
    decodeAt .m6800 0b10101101 0x34 0x00 = some (.m6800Jsr (.idx 0x34)) ∧
    decodeAt .m6800 0b00111001 0x00 0x00 = some .m6800Rts ∧
    decodeAt .m6800 0b00111011 0x00 0x00 = some .m6800Rti ∧
    decodeAt .m6800 0b00111111 0x00 0x00 = some .m6800Swi ∧
    decodeAt .m6800 0b00111110 0x00 0x00 = some .m6800Wai ∧
    decodeAt .m6800 0b00000001 0x00 0x00 = some .m6800Nop ∧
    decodeAt .m6800 0b00001100 0x00 0x00 = some .m6800Clc ∧
    decodeAt .m6800 0b00001101 0x00 0x00 = some .m6800Sec ∧
    decodeAt .m6800 0b00001110 0x00 0x00 = some .m6800Cli ∧
    decodeAt .m6800 0b00001111 0x00 0x00 = some .m6800Sei ∧
    decodeAt .m6800 0b00001010 0x00 0x00 = some .m6800Clv ∧
    decodeAt .m6800 0b00001011 0x00 0x00 = some .m6800Sev := by decide

/-- Bytes absent from a table are refused, and so is an operand that is missing (30_encoding.md R81, R91). -/
theorem test_decode_refuses :
    (match decode .m6502 [0x02, 0x00] with | .error e => some e | .ok _ => none) = some (.unknownOpcode 0x02) ∧
    (match decode .m6800 [0x87, 0x00] with | .error e => some e | .ok _ => none) = some (.unknownOpcode 0x87) ∧
    (match decode .m6502 [0xAD, 0x00] with | .error e => some e | .ok _ => none) = some (.truncated 0xAD) ∧
    (match decode .m6800 [] with | .error e => some e | .ok _ => none) = some .noBytes := by decide

/-- The host's table words: bits 7..0 are the opcode byte, bits 15..8 the next byte. -/
theorem test_decodeTableWord :
    decodeTableWord 24 0x1234AD = some (.m6502Lda (.abs 0x1234)) ∧ decodeTableWord 8 0xEA = some .m6502Nop ∧
    decodeTableWord 24 0x3412CE = some (.m6502Dec (.abs 0x3412)) ∧ decodeTableWord 16 0x5687 = none ∧
    decodeTableWord 24 0x3412BF = some (.m6800Sts (.ext 0x1234)) ∧ decodeTableWord 8 0x1B = some .m6800Aba := by decide

/-- A table word placed at PC is what the next step runs, on the engine whose table has it. -/
theorem test_withFetchWord :
    (after (State.reset.withFetchWord 16 0x42A9)).map (fun t => (t.m6502.a, t.pc)) = some (0x42, 0x0002) ∧
    (after (State.reset.withFetchWord 16 0x05CB)).map (fun t => (t.m6800.b, t.pc)) = some (0x05, 0x0002) := by decide

/-! ### Vectors of 95_test_vectors.md -/

theorem test_m6502Bne_S6a :
    run65 0x0280 Config.defaults { Regs65.reset with z := true }
      [(0x0280, 0xD0), (0x0281, 0x10)] =
    some (0x0282, { Regs65.reset with z := true }, 1,
      [(0x0280, 0xD0), (0x0281, 0x10)]) := by decide

theorem test_m6502Bne_S6b :
    run65 0x0280 Config.defaults { Regs65.reset with z := false }
      [(0x0280, 0xD0), (0x0281, 0x10)] =
    some (0x0292, { Regs65.reset with z := false }, 2,
      [(0x0280, 0xD0), (0x0281, 0x10)]) := by decide

theorem test_m6502Lda_V1 :
    run65 0x0200 Config.defaults Regs65.reset
      [(0x0200, 0xA9)] =
    some (0x0202, { Regs65.reset with z := true }, 1,
      [(0x0200, 0xA9)]) := by decide

theorem test_m6502Ldx_V8 :
    run65 0x0200 Config.defaults { Regs65.reset with y := 0x5 }
      [(0x0003, 0x81), (0x0200, 0xB6), (0x0201, 0xFE)] =
    some (0x0202, { Regs65.reset with y := 0x5, x := 0x81, n := true }, 3,
      [(0x0003, 0x81), (0x0200, 0xB6), (0x0201, 0xFE)]) := by decide

theorem test_m6502Ldy_V9 :
    run65 0x0200 Config.defaults { Regs65.reset with x := 0x2 }
      [(0x0200, 0xBC), (0x0201, 0xFE), (0x0202, 0x10)] =
    some (0x0203, { Regs65.reset with x := 0x2, z := true }, 4,
      [(0x0200, 0xBC), (0x0201, 0xFE), (0x0202, 0x10)]) := by decide

theorem test_m6502Sta_V10 :
    run65 0x0200 Config.defaults { Regs65.reset with a := 0x77, x := 0x4 }
      [(0x0200, 0x9D), (0x0201, 0xFF), (0x0202, 0x12)] =
    some (0x0203, { Regs65.reset with a := 0x77, x := 0x4 }, 4,
      [(0x0200, 0x9D), (0x0201, 0xFF), (0x0202, 0x12), (0x1303, 0x77)]) := by decide

theorem test_m6502Stx_V12 :
    run65 0x0200 Config.defaults { Regs65.reset with x := 0xAB, y := 0x20 }
      [(0x0200, 0x96), (0x0201, 0xF0)] =
    some (0x0202, { Regs65.reset with x := 0xAB, y := 0x20 }, 3,
      [(0x0010, 0xAB), (0x0200, 0x96), (0x0201, 0xF0)]) := by decide

theorem test_m6502Sty_V13 :
    run65 0x0200 Config.defaults { Regs65.reset with y := 0xCD }
      [(0x0200, 0x8C), (0x0202, 0x30)] =
    some (0x0203, { Regs65.reset with y := 0xCD }, 3,
      [(0x0200, 0x8C), (0x0202, 0x30), (0x3000, 0xCD)]) := by decide

theorem test_m6502Tax_V14 :
    run65 0x0200 Config.defaults { Regs65.reset with a := 0x0, x := 0x55 }
      [(0x0200, 0xAA)] =
    some (0x0201, { Regs65.reset with a := 0x0, x := 0x0, z := true }, 1,
      [(0x0200, 0xAA)]) := by decide

theorem test_m6502Txa_V15 :
    run65 0x0200 Config.defaults { Regs65.reset with x := 0x90 }
      [(0x0200, 0x8A)] =
    some (0x0201, { Regs65.reset with x := 0x90, a := 0x90, n := true }, 1,
      [(0x0200, 0x8A)]) := by decide

theorem test_m6502Tsx_V16 :
    run65 0x0200 Config.defaults { Regs65.reset with sp := 0xF0 }
      [(0x0200, 0xBA)] =
    some (0x0201, { Regs65.reset with sp := 0xF0, x := 0xF0, n := true }, 1,
      [(0x0200, 0xBA)]) := by decide

theorem test_m6502Txs_V17 :
    run65 0x0200 Config.defaults { Regs65.reset with x := 0x0 }
      [(0x0200, 0x9A)] =
    some (0x0201, { Regs65.reset with x := 0x0, sp := 0x0 }, 1,
      [(0x0200, 0x9A)]) := by decide

theorem test_m6502Adc_V20 :
    run65 0x0200 Config.defaults { Regs65.reset with a := 0xFF }
      [(0x0200, 0x69), (0x0201, 0x01)] =
    some (0x0202, { Regs65.reset with a := 0x0, z := true, c := true }, 1,
      [(0x0200, 0x69), (0x0201, 0x01)]) := by decide

theorem test_m6502Adc_V21 :
    run65 0x0200 Config.defaults { Regs65.reset with a := 0x7F }
      [(0x0200, 0x69), (0x0201, 0x01)] =
    some (0x0202, { Regs65.reset with a := 0x80, n := true, v := true }, 1,
      [(0x0200, 0x69), (0x0201, 0x01)]) := by decide

theorem test_m6502Sbc_V27 :
    run65 0x0200 Config.defaults { Regs65.reset with a := 0x0, c := true }
      [(0x0200, 0xE9), (0x0201, 0x01)] =
    some (0x0202, { Regs65.reset with a := 0xFF, c := false, n := true }, 1,
      [(0x0200, 0xE9), (0x0201, 0x01)]) := by decide

theorem test_m6502Sbc_V28 :
    run65 0x0200 Config.defaults { Regs65.reset with a := 0x80, c := true }
      [(0x0200, 0xE9), (0x0201, 0x01)] =
    some (0x0202, { Regs65.reset with a := 0x7F, c := true, v := true }, 1,
      [(0x0200, 0xE9), (0x0201, 0x01)]) := by decide

theorem test_m6502And_V31 :
    run65 0x0200 Config.defaults { Regs65.reset with a := 0xC3 }
      [(0x0200, 0x29), (0x0201, 0x81)] =
    some (0x0202, { Regs65.reset with a := 0x81, n := true }, 1,
      [(0x0200, 0x29), (0x0201, 0x81)]) := by decide

theorem test_m6502Ora_V32 :
    run65 0x0200 Config.defaults { Regs65.reset with a := 0x0 }
      [(0x0200, 0x09)] =
    some (0x0202, { Regs65.reset with a := 0x0, z := true }, 1,
      [(0x0200, 0x09)]) := by decide

theorem test_m6502Eor_V33 :
    run65 0x0200 Config.defaults { Regs65.reset with a := 0xFF }
      [(0x0200, 0x49), (0x0201, 0x0F)] =
    some (0x0202, { Regs65.reset with a := 0xF0, n := true }, 1,
      [(0x0200, 0x49), (0x0201, 0x0F)]) := by decide

theorem test_m6502Bit_V34 :
    run65 0x0200 Config.defaults { Regs65.reset with a := 0xF }
      [(0x0010, 0xF0), (0x0200, 0x24), (0x0201, 0x10)] =
    some (0x0202, { Regs65.reset with a := 0xF, n := true, v := true, z := true }, 2,
      [(0x0010, 0xF0), (0x0200, 0x24), (0x0201, 0x10)]) := by decide

theorem test_m6502Cmp_V36 :
    run65 0x0200 Config.defaults { Regs65.reset with a := 0x40 }
      [(0x0200, 0xC9), (0x0201, 0x40)] =
    some (0x0202, { Regs65.reset with a := 0x40, z := true, c := true }, 1,
      [(0x0200, 0xC9), (0x0201, 0x40)]) := by decide

theorem test_m6502Cmp_V37 :
    run65 0x0200 Config.defaults { Regs65.reset with a := 0x40, v := true }
      [(0x0200, 0xC9), (0x0201, 0xC0)] =
    some (0x0202, { Regs65.reset with a := 0x40, v := true, n := true }, 1,
      [(0x0200, 0xC9), (0x0201, 0xC0)]) := by decide

theorem test_m6502Cpx_V38 :
    run65 0x0200 Config.defaults { Regs65.reset with x := 0xFF }
      [(0x0200, 0xE0)] =
    some (0x0202, { Regs65.reset with x := 0xFF, n := true, c := true }, 1,
      [(0x0200, 0xE0)]) := by decide

theorem test_m6502Cpy_V39 :
    run65 0x0200 Config.defaults { Regs65.reset with y := 0x0 }
      [(0x0200, 0xC4), (0x0201, 0x10)] =
    some (0x0202, { Regs65.reset with y := 0x0, z := true, c := true }, 2,
      [(0x0200, 0xC4), (0x0201, 0x10)]) := by decide

theorem test_m6502Inc_V40 :
    run65 0x0200 Config.defaults Regs65.reset
      [(0x0010, 0xFF), (0x0200, 0xE6), (0x0201, 0x10)] =
    some (0x0202, { Regs65.reset with z := true }, 4,
      [(0x0200, 0xE6), (0x0201, 0x10)]) := by decide

theorem test_m6502Dec_V41 :
    run65 0x0200 Config.defaults { Regs65.reset with x := 0x1 }
      [(0x0200, 0xDE), (0x0201, 0xFF), (0x0202, 0x30)] =
    some (0x0203, { Regs65.reset with x := 0x1, n := true }, 6,
      [(0x0200, 0xDE), (0x0201, 0xFF), (0x0202, 0x30), (0x3100, 0xFF)]) := by decide

theorem test_m6502Inx_V42 :
    run65 0x0200 Config.defaults { Regs65.reset with x := 0xFF, c := true }
      [(0x0200, 0xE8)] =
    some (0x0201, { Regs65.reset with x := 0x0, c := true, z := true }, 1,
      [(0x0200, 0xE8)]) := by decide

theorem test_m6502Dey_V43 :
    run65 0x0200 Config.defaults { Regs65.reset with y := 0x80 }
      [(0x0200, 0x88)] =
    some (0x0201, { Regs65.reset with y := 0x7F }, 1,
      [(0x0200, 0x88)]) := by decide

theorem test_m6502Asl_V44 :
    run65 0x0200 Config.defaults { Regs65.reset with a := 0x80 }
      [(0x0200, 0x0A)] =
    some (0x0201, { Regs65.reset with a := 0x0, z := true, c := true }, 1,
      [(0x0200, 0x0A)]) := by decide

theorem test_m6502Lsr_V45 :
    run65 0x0200 Config.defaults Regs65.reset
      [(0x0200, 0x4E), (0x0202, 0x30), (0x3000, 0x01)] =
    some (0x0203, { Regs65.reset with z := true, c := true }, 5,
      [(0x0200, 0x4E), (0x0202, 0x30)]) := by decide

theorem test_m6502Rol_V46 :
    run65 0x0200 Config.defaults { Regs65.reset with a := 0x80, c := true }
      [(0x0200, 0x2A)] =
    some (0x0201, { Regs65.reset with a := 0x1, c := true }, 1,
      [(0x0200, 0x2A)]) := by decide

theorem test_m6502Ror_V47 :
    run65 0x0200 Config.defaults { Regs65.reset with a := 0x1, c := true }
      [(0x0200, 0x6A)] =
    some (0x0201, { Regs65.reset with a := 0x80, c := true, n := true }, 1,
      [(0x0200, 0x6A)]) := by decide

theorem test_m6502Ror_V48 :
    run65 0x0200 Config.defaults { Regs65.reset with x := 0x2 }
      [(0x0001, 0x02), (0x0200, 0x76), (0x0201, 0xFF)] =
    some (0x0202, { Regs65.reset with x := 0x2 }, 5,
      [(0x0001, 0x01), (0x0200, 0x76), (0x0201, 0xFF)]) := by decide

theorem test_m6502Beq_V51 :
    run65 0x0200 Config.defaults { Regs65.reset with z := false }
      [(0x0200, 0xF0), (0x0201, 0x10)] =
    some (0x0202, { Regs65.reset with z := false }, 1,
      [(0x0200, 0xF0), (0x0201, 0x10)]) := by decide

theorem test_m6502Bpl_V52 :
    run65 0x0200 Config.defaults { Regs65.reset with n := false }
      [(0x0200, 0x10), (0x0201, 0xFC)] =
    some (0x01FE, { Regs65.reset with n := false }, 3,
      [(0x0200, 0x10), (0x0201, 0xFC)]) := by decide

theorem test_m6502Bmi_V53 :
    run65 0x02FE Config.defaults { Regs65.reset with n := true }
      [(0x02FE, 0x30), (0x02FF, 0x02)] =
    some (0x0302, { Regs65.reset with n := true }, 2,
      [(0x02FE, 0x30), (0x02FF, 0x02)]) := by decide

theorem test_m6502Bcc_V55 :
    run65 0x0200 Config.defaults { Regs65.reset with c := false }
      [(0x0200, 0x90)] =
    some (0x0202, { Regs65.reset with c := false }, 2,
      [(0x0200, 0x90)]) := by decide

theorem test_m6502Jmp_V56 :
    run65 0x0200 Config.defaults Regs65.reset
      [(0x0200, 0x6C), (0x0202, 0x30), (0x3000, 0x34), (0x3001, 0x12)] =
    some (0x1234, Regs65.reset, 4,
      [(0x0200, 0x6C), (0x0202, 0x30), (0x3000, 0x34), (0x3001, 0x12)]) := by decide

theorem test_m6502Jsr_V58 :
    run65 0x0310 Config.defaults Regs65.reset
      [(0x0310, 0x20), (0x0312, 0x30)] =
    some (0x3000, { Regs65.reset with sp := 0xFB }, 5,
      [(0x01FC, 0x12), (0x01FD, 0x03), (0x0310, 0x20), (0x0312, 0x30)]) := by decide

theorem test_m6502Jsr_V59 :
    run65 0x0310 { Config.defaults with jsrConvention := .doc } Regs65.reset
      [(0x0310, 0x20), (0x0312, 0x30)] =
    some (0x3000, { Regs65.reset with sp := 0xFB }, 5,
      [(0x01FC, 0x13), (0x01FD, 0x03), (0x0310, 0x20), (0x0312, 0x30)]) := by decide

theorem test_m6502Rts_V61 :
    run65 0x3000 Config.defaults { Regs65.reset with sp := 0xFB }
      [(0x01FC, 0x12), (0x01FD, 0x03), (0x3000, 0x60)] =
    some (0x0313, { Regs65.reset with sp := 0xFD }, 5,
      [(0x01FC, 0x12), (0x01FD, 0x03), (0x3000, 0x60)]) := by decide

theorem test_m6502Rti_V62 :
    run65 0x0200 Config.defaults { Regs65.reset with sp := 0xFA }
      [(0x01FB, 0xFF), (0x01FC, 0x34), (0x01FD, 0x12), (0x0200, 0x40)] =
    some (0x1234, { Regs65.reset with sp := 0xFD, n := true, v := true, b := true, d := true, z := true, c := true }, 5,
      [(0x01FB, 0xFF), (0x01FC, 0x34), (0x01FD, 0x12), (0x0200, 0x40)]) := by decide

theorem test_m6502Brk_V63 :
    run65 0x0600 Config.defaults Regs65.reset
      [(0x0601, 0xEA), (0xFFFF, 0x80)] =
    some (0x8000, { Regs65.reset with sp := 0xFA }, 6,
      [(0x01FB, 0x34), (0x01FC, 0x02), (0x01FD, 0x06), (0x0601, 0xEA), (0xFFFF, 0x80)]) := by decide

theorem test_m6502Pha_V64 :
    run65 0x0200 Config.defaults { Regs65.reset with a := 0x99, sp := 0x0 }
      [(0x0200, 0x48)] =
    some (0x0201, { Regs65.reset with a := 0x99, sp := 0xFF }, 2,
      [(0x0100, 0x99), (0x0200, 0x48)]) := by decide

theorem test_m6502Php_V65 :
    run65 0x0200 Config.defaults { Regs65.reset with c := true, n := true }
      [(0x0200, 0x08)] =
    some (0x0201, { Regs65.reset with c := true, n := true, sp := 0xFC }, 2,
      [(0x01FD, 0xB5), (0x0200, 0x08)]) := by decide

theorem test_m6502Pla_V66 :
    run65 0x0200 Config.defaults { Regs65.reset with sp := 0xFF }
      [(0x0100, 0x80), (0x0200, 0x68)] =
    some (0x0201, { Regs65.reset with sp := 0x0, a := 0x80, n := true }, 3,
      [(0x0100, 0x80), (0x0200, 0x68)]) := by decide

theorem test_m6502Plp_V67 :
    run65 0x0200 Config.defaults { Regs65.reset with sp := 0xFC }
      [(0x0200, 0x28)] =
    some (0x0201, { Regs65.reset with sp := 0xFD, i := false }, 3,
      [(0x0200, 0x28)]) := by decide

theorem test_m6800Ldaa_V80 :
    run68 0x1000 Config.defaults { Regs68.reset with v := true }
      [(0x1000, 0x86)] =
    some (0x1002, { Regs68.reset with v := false, z := true }, 1,
      [(0x1000, 0x86)]) := by decide

theorem test_m6800Ldab_V81 :
    run68 0x1000 Config.defaults { Regs68.reset with ix := 0x2000 }
      [(0x1000, 0xE6), (0x1001, 0xFF), (0x20FF, 0x80)] =
    some (0x1002, { Regs68.reset with ix := 0x2000, b := 0x80, n := true }, 4,
      [(0x1000, 0xE6), (0x1001, 0xFF), (0x20FF, 0x80)]) := by decide

theorem test_m6800Staa_V83 :
    run68 0x1000 Config.defaults { Regs68.reset with a := 0x80 }
      [(0x1000, 0xB7), (0x1001, 0x30)] =
    some (0x1003, { Regs68.reset with a := 0x80, n := true }, 4,
      [(0x1000, 0xB7), (0x1001, 0x30), (0x3000, 0x80)]) := by decide

theorem test_m6800Lds_V84 :
    run68 0x1000 Config.defaults Regs68.reset
      [(0x00FF, 0x01), (0x0100, 0xFF), (0x1000, 0x9E), (0x1001, 0xFF)] =
    some (0x1002, { Regs68.reset with sp := 0x1FF }, 3,
      [(0x00FF, 0x01), (0x0100, 0xFF), (0x1000, 0x9E), (0x1001, 0xFF)]) := by decide

theorem test_m6800Ldx_V85 :
    run68 0x1000 Config.defaults Regs68.reset
      [(0x1000, 0xFE), (0x1001, 0x30), (0x3000, 0x80), (0x3001, 0x01)] =
    some (0x1003, { Regs68.reset with ix := 0x8001, n := true }, 4,
      [(0x1000, 0xFE), (0x1001, 0x30), (0x3000, 0x80), (0x3001, 0x01)]) := by decide

theorem test_m6800Stx_V86 :
    run68 0x1000 Config.defaults { Regs68.reset with ix := 0xABCD }
      [(0x1000, 0xDF), (0x1001, 0x40)] =
    some (0x1002, { Regs68.reset with ix := 0xABCD, n := true }, 4,
      [(0x0040, 0xAB), (0x0041, 0xCD), (0x1000, 0xDF), (0x1001, 0x40)]) := by decide

theorem test_m6800Sts_V87 :
    run68 0x1000 Config.defaults { Regs68.reset with sp := 0x0 }
      [(0x1000, 0xBF), (0x1001, 0x30), (0x3000, 0xFF), (0x3001, 0xFF)] =
    some (0x1003, { Regs68.reset with sp := 0x0, z := true }, 5,
      [(0x1000, 0xBF), (0x1001, 0x30)]) := by decide

theorem test_m6800Tab_V88 :
    run68 0x1000 Config.defaults { Regs68.reset with a := 0x0, b := 0x55, v := true }
      [(0x1000, 0x16)] =
    some (0x1001, { Regs68.reset with a := 0x0, b := 0x0, v := false, z := true }, 1,
      [(0x1000, 0x16)]) := by decide

theorem test_m6800Tap_V89 :
    run68 0x1000 Config.defaults { Regs68.reset with a := 0xFF }
      [(0x1000, 0x06)] =
    some (0x1001, { Regs68.reset with a := 0xFF, h := true, i := true, n := true, z := true, v := true, c := true }, 1,
      [(0x1000, 0x06)]) := by decide

theorem test_m6800Tpa_V90 :
    run68 0x1000 Config.defaults { Regs68.reset with h := true, c := true }
      [(0x1000, 0x07)] =
    some (0x1001, { Regs68.reset with h := true, c := true, a := 0xE1 }, 1,
      [(0x1000, 0x07)]) := by decide

theorem test_m6800Tsx_V91 :
    run68 0x1000 Config.defaults { Regs68.reset with sp := 0xFFFF, ix := 0x5555 }
      [(0x1000, 0x30)] =
    some (0x1001, { Regs68.reset with sp := 0xFFFF, ix := 0x0 }, 3,
      [(0x1000, 0x30)]) := by decide

theorem test_m6800Txs_V92 :
    run68 0x1000 Config.defaults { Regs68.reset with ix := 0x0 }
      [(0x1000, 0x35)] =
    some (0x1001, { Regs68.reset with ix := 0x0, sp := 0xFFFF }, 3,
      [(0x1000, 0x35)]) := by decide

theorem test_m6800Psha_V93 :
    run68 0x1000 Config.defaults { Regs68.reset with a := 0x5A, sp := 0x0 }
      [(0x1000, 0x36)] =
    some (0x1001, { Regs68.reset with a := 0x5A, sp := 0xFFFF }, 3,
      [(0x0000, 0x5A), (0x1000, 0x36)]) := by decide

theorem test_m6800Pulb_V94 :
    run68 0x1000 Config.defaults { Regs68.reset with sp := 0xFFFF }
      [(0x0000, 0x77), (0x1000, 0x33)] =
    some (0x1001, { Regs68.reset with sp := 0x0, b := 0x77 }, 3,
      [(0x0000, 0x77), (0x1000, 0x33)]) := by decide

theorem test_m6800Inx_V95 :
    run68 0x1000 Config.defaults { Regs68.reset with ix := 0xFFFF, n := true }
      [(0x1000, 0x08)] =
    some (0x1001, { Regs68.reset with ix := 0x0, n := true, z := true }, 3,
      [(0x1000, 0x08)]) := by decide

theorem test_m6800Dex_V96 :
    run68 0x1000 Config.defaults { Regs68.reset with ix := 0x0 }
      [(0x1000, 0x09)] =
    some (0x1001, { Regs68.reset with ix := 0xFFFF }, 3,
      [(0x1000, 0x09)]) := by decide

theorem test_m6800Ins_V97 :
    run68 0x1000 Config.defaults { Regs68.reset with sp := 0xFFFF }
      [(0x1000, 0x31)] =
    some (0x1001, { Regs68.reset with sp := 0x0 }, 3,
      [(0x1000, 0x31)]) := by decide

theorem test_m6800Des_V98 :
    run68 0x1000 Config.defaults { Regs68.reset with sp := 0x0, z := true }
      [(0x1000, 0x34)] =
    some (0x1001, { Regs68.reset with sp := 0xFFFF, z := true }, 3,
      [(0x1000, 0x34)]) := by decide

theorem test_m6800Adda_V100 :
    run68 0x1000 Config.defaults { Regs68.reset with a := 0xF }
      [(0x1000, 0x8B), (0x1001, 0x01)] =
    some (0x1002, { Regs68.reset with a := 0x10, h := true }, 1,
      [(0x1000, 0x8B), (0x1001, 0x01)]) := by decide

theorem test_m6800Adda_V101 :
    run68 0x1000 Config.defaults { Regs68.reset with a := 0x7F }
      [(0x1000, 0x8B), (0x1001, 0x01)] =
    some (0x1002, { Regs68.reset with a := 0x80, h := true, n := true, v := true }, 1,
      [(0x1000, 0x8B), (0x1001, 0x01)]) := by decide

theorem test_m6800Addb_V102 :
    run68 0x1000 Config.defaults { Regs68.reset with b := 0x80 }
      [(0x1000, 0xCB), (0x1001, 0x80)] =
    some (0x1002, { Regs68.reset with b := 0x0, z := true, v := true, c := true }, 1,
      [(0x1000, 0xCB), (0x1001, 0x80)]) := by decide

theorem test_m6800Adca_V103 :
    run68 0x1000 Config.defaults { Regs68.reset with a := 0x8, c := true }
      [(0x1000, 0x89), (0x1001, 0x07)] =
    some (0x1002, { Regs68.reset with a := 0x10, c := false, h := true }, 1,
      [(0x1000, 0x89), (0x1001, 0x07)]) := by decide

theorem test_m6800Aba_V104 :
    run68 0x1000 Config.defaults { Regs68.reset with a := 0xFF, b := 0x1 }
      [(0x1000, 0x1B)] =
    some (0x1001, { Regs68.reset with a := 0x0, b := 0x1, h := true, z := true, c := true }, 1,
      [(0x1000, 0x1B)]) := by decide

theorem test_m6800Suba_V105 :
    run68 0x1000 Config.defaults { Regs68.reset with a := 0x0 }
      [(0x1000, 0x80), (0x1001, 0x01)] =
    some (0x1002, { Regs68.reset with a := 0xFF, n := true, c := true }, 1,
      [(0x1000, 0x80), (0x1001, 0x01)]) := by decide

theorem test_m6800Suba_V106 :
    run68 0x1000 Config.defaults { Regs68.reset with a := 0x80, h := true }
      [(0x1000, 0x80), (0x1001, 0x01)] =
    some (0x1002, { Regs68.reset with a := 0x7F, h := true, v := true }, 1,
      [(0x1000, 0x80), (0x1001, 0x01)]) := by decide

theorem test_m6800Sbca_V107 :
    run68 0x1000 Config.defaults { Regs68.reset with a := 0x0, c := true }
      [(0x1000, 0x82)] =
    some (0x1002, { Regs68.reset with a := 0xFF, c := true, n := true }, 1,
      [(0x1000, 0x82)]) := by decide

theorem test_m6800Sba_V108 :
    run68 0x1000 Config.defaults { Regs68.reset with a := 0x10, b := 0x10 }
      [(0x1000, 0x10)] =
    some (0x1001, { Regs68.reset with a := 0x0, b := 0x10, z := true }, 1,
      [(0x1000, 0x10)]) := by decide

theorem test_m6800Cmpa_V109 :
    run68 0x1000 Config.defaults { Regs68.reset with a := 0x7F }
      [(0x1000, 0x81), (0x1001, 0xFF)] =
    some (0x1002, { Regs68.reset with a := 0x7F, n := true, v := true, c := true }, 1,
      [(0x1000, 0x81), (0x1001, 0xFF)]) := by decide

theorem test_m6800Cba_V110 :
    run68 0x1000 Config.defaults { Regs68.reset with a := 0x20, b := 0x10 }
      [(0x1000, 0x11)] =
    some (0x1001, { Regs68.reset with a := 0x20, b := 0x10, n := false, z := false, v := false, c := false }, 1,
      [(0x1000, 0x11)]) := by decide

theorem test_m6800Cpx_V111 :
    run68 0x1000 Config.defaults { Regs68.reset with ix := 0x0 }
      [(0x1000, 0x8C), (0x1002, 0x01)] =
    some (0x1003, { Regs68.reset with ix := 0x0, n := false, z := false, v := false }, 2,
      [(0x1000, 0x8C), (0x1002, 0x01)]) := by decide

theorem test_m6800Cpx_V112 :
    run68 0x1000 Config.defaults { Regs68.reset with ix := 0x8000, c := true }
      [(0x1000, 0x8C), (0x1002, 0x01)] =
    some (0x1003, { Regs68.reset with ix := 0x8000, c := true, n := true }, 2,
      [(0x1000, 0x8C), (0x1002, 0x01)]) := by decide

theorem test_m6800Anda_V114 :
    run68 0x1000 Config.defaults { Regs68.reset with a := 0xF0, v := true }
      [(0x1000, 0x84), (0x1001, 0x80)] =
    some (0x1002, { Regs68.reset with a := 0x80, v := false, n := true }, 1,
      [(0x1000, 0x84), (0x1001, 0x80)]) := by decide

theorem test_m6800Bita_V115 :
    run68 0x1000 Config.defaults { Regs68.reset with a := 0x1, v := true }
      [(0x1000, 0x85), (0x1001, 0xC0)] =
    some (0x1002, { Regs68.reset with a := 0x1, v := false, z := true }, 1,
      [(0x1000, 0x85), (0x1001, 0xC0)]) := by decide

theorem test_m6800Eora_V116 :
    run68 0x1000 Config.defaults { Regs68.reset with a := 0xFF }
      [(0x1000, 0x88), (0x1001, 0x7F)] =
    some (0x1002, { Regs68.reset with a := 0x80, n := true }, 1,
      [(0x1000, 0x88), (0x1001, 0x7F)]) := by decide

theorem test_m6800Orab_V117 :
    run68 0x1000 Config.defaults { Regs68.reset with b := 0x0 }
      [(0x1000, 0xCA)] =
    some (0x1002, { Regs68.reset with b := 0x0, z := true }, 1,
      [(0x1000, 0xCA)]) := by decide

theorem test_m6800Daa_V72 :
    (after (at68 0x1000 Config.defaults { Regs68.reset with a := 0x42, h := true, c := false }
      [(0x1000, 0x19)])).map (fun t => (t.pc, t.m6800.a, t.m6800.c, t.m6800.n, t.m6800.z, t.remaining)) =
    some (0x1001, 0x48, false, false, false, 1) := by decide

theorem test_m6800Daa_V74 :
    (after (at68 0x1000 Config.defaults { Regs68.reset with a := 0x9B, h := false, c := false }
      [(0x1000, 0x19)])).map (fun t => (t.pc, t.m6800.a, t.m6800.c, t.m6800.n, t.m6800.z, t.remaining)) =
    some (0x1001, 0x01, true, false, false, 1) := by decide

theorem test_m6800Nega_V120 :
    run68 0x1000 Config.defaults { Regs68.reset with a := 0x0, c := true }
      [(0x1000, 0x40)] =
    some (0x1001, { Regs68.reset with a := 0x0, c := false, z := true }, 1,
      [(0x1000, 0x40)]) := by decide

theorem test_m6800Neg_V121 :
    run68 0x1000 Config.defaults Regs68.reset
      [(0x1000, 0x70), (0x1001, 0x30), (0x3000, 0x80)] =
    some (0x1003, { Regs68.reset with n := true, v := true, c := true }, 5,
      [(0x1000, 0x70), (0x1001, 0x30), (0x3000, 0x80)]) := by decide

theorem test_m6800Comb_V122 :
    run68 0x1000 Config.defaults { Regs68.reset with b := 0xF }
      [(0x1000, 0x53)] =
    some (0x1001, { Regs68.reset with b := 0xF0, n := true, c := true }, 1,
      [(0x1000, 0x53)]) := by decide

theorem test_m6800Clr_V123 :
    run68 0x1000 Config.defaults { Regs68.reset with ix := 0x2000, n := true, c := true, v := true }
      [(0x1000, 0x6F), (0x1001, 0xFF), (0x20FF, 0x99)] =
    some (0x1002, { Regs68.reset with ix := 0x2000, n := false, c := false, v := false, z := true }, 6,
      [(0x1000, 0x6F), (0x1001, 0xFF)]) := by decide

theorem test_m6800Tsta_V124 :
    run68 0x1000 Config.defaults { Regs68.reset with a := 0x0, c := true, v := true }
      [(0x1000, 0x4D)] =
    some (0x1001, { Regs68.reset with a := 0x0, c := false, v := false, z := true }, 1,
      [(0x1000, 0x4D)]) := by decide

theorem test_m6800Inca_V125 :
    run68 0x1000 Config.defaults { Regs68.reset with a := 0xFF, c := true }
      [(0x1000, 0x4C)] =
    some (0x1001, { Regs68.reset with a := 0x0, c := true, z := true }, 1,
      [(0x1000, 0x4C)]) := by decide

theorem test_m6800Dec_V126 :
    run68 0x1000 Config.defaults Regs68.reset
      [(0x1000, 0x7A), (0x1001, 0x30), (0x3000, 0x80)] =
    some (0x1003, { Regs68.reset with v := true }, 5,
      [(0x1000, 0x7A), (0x1001, 0x30), (0x3000, 0x7F)]) := by decide

theorem test_m6800Asla_V127 :
    run68 0x1000 Config.defaults { Regs68.reset with a := 0xC0 }
      [(0x1000, 0x48)] =
    some (0x1001, { Regs68.reset with a := 0x80, n := true, c := true }, 1,
      [(0x1000, 0x48)]) := by decide

theorem test_m6800Asra_V128 :
    run68 0x1000 Config.defaults { Regs68.reset with a := 0x81 }
      [(0x1000, 0x47)] =
    some (0x1001, { Regs68.reset with a := 0xC0, n := true, c := true }, 1,
      [(0x1000, 0x47)]) := by decide

theorem test_m6800Lsra_V129 :
    run68 0x1000 Config.defaults { Regs68.reset with a := 0x81 }
      [(0x1000, 0x44)] =
    some (0x1001, { Regs68.reset with a := 0x40, v := true, c := true }, 1,
      [(0x1000, 0x44)]) := by decide

theorem test_m6800Rolb_V130 :
    run68 0x1000 Config.defaults { Regs68.reset with b := 0x0, c := true }
      [(0x1000, 0x59)] =
    some (0x1001, { Regs68.reset with b := 0x1, c := false }, 1,
      [(0x1000, 0x59)]) := by decide

theorem test_m6800Ror_V131 :
    run68 0x1000 Config.defaults { Regs68.reset with c := false }
      [(0x1000, 0x76), (0x1001, 0x30), (0x3000, 0x01)] =
    some (0x1003, { Regs68.reset with c := true, z := true, v := true }, 5,
      [(0x1000, 0x76), (0x1001, 0x30)]) := by decide

theorem test_m6800Bra_V140 :
    run68 0x1000 Config.defaults Regs68.reset
      [(0x1000, 0x20), (0x1001, 0x80)] =
    some (0x0F82, Regs68.reset, 3,
      [(0x1000, 0x20), (0x1001, 0x80)]) := by decide

theorem test_m6800Bhi_V141 :
    run68 0x1000 Config.defaults { Regs68.reset with c := false, z := true }
      [(0x1000, 0x22), (0x1001, 0x10)] =
    some (0x1002, { Regs68.reset with c := false, z := true }, 3,
      [(0x1000, 0x22), (0x1001, 0x10)]) := by decide

theorem test_m6800Bls_V142 :
    run68 0x1000 Config.defaults { Regs68.reset with c := true, z := false }
      [(0x1000, 0x23), (0x1001, 0x10)] =
    some (0x1012, { Regs68.reset with c := true, z := false }, 3,
      [(0x1000, 0x23), (0x1001, 0x10)]) := by decide

theorem test_m6800Bge_V143 :
    run68 0x1000 Config.defaults { Regs68.reset with n := true, v := false }
      [(0x1000, 0x2C), (0x1001, 0x10)] =
    some (0x1002, { Regs68.reset with n := true, v := false }, 3,
      [(0x1000, 0x2C), (0x1001, 0x10)]) := by decide

theorem test_m6800Blt_V144 :
    run68 0x1000 Config.defaults { Regs68.reset with n := false, v := true }
      [(0x1000, 0x2D), (0x1001, 0x10)] =
    some (0x1012, { Regs68.reset with n := false, v := true }, 3,
      [(0x1000, 0x2D), (0x1001, 0x10)]) := by decide

theorem test_m6800Bgt_V145 :
    run68 0x1000 Config.defaults { Regs68.reset with z := false, n := true, v := true }
      [(0x1000, 0x2E), (0x1001, 0x10)] =
    some (0x1012, { Regs68.reset with z := false, n := true, v := true }, 3,
      [(0x1000, 0x2E), (0x1001, 0x10)]) := by decide

theorem test_m6800Ble_V146 :
    run68 0x1000 Config.defaults { Regs68.reset with z := false, n := false, v := false }
      [(0x1000, 0x2F), (0x1001, 0x10)] =
    some (0x1002, { Regs68.reset with z := false, n := false, v := false }, 3,
      [(0x1000, 0x2F), (0x1001, 0x10)]) := by decide

theorem test_m6800Beq_V147 :
    run68 0x10F0 Config.defaults { Regs68.reset with z := true }
      [(0x10F0, 0x27), (0x10F1, 0x20)] =
    some (0x1112, { Regs68.reset with z := true }, 3,
      [(0x10F0, 0x27), (0x10F1, 0x20)]) := by decide

theorem test_m6800Bsr_V148 :
    run68 0x1000 Config.defaults { Regs68.reset with sp := 0x1FF }
      [(0x1000, 0x8D), (0x1001, 0xFE)] =
    some (0x1000, { Regs68.reset with sp := 0x1FD }, 7,
      [(0x01FE, 0x10), (0x01FF, 0x02), (0x1000, 0x8D), (0x1001, 0xFE)]) := by decide

theorem test_m6800Jsr_V149 :
    run68 0x1000 Config.defaults { Regs68.reset with sp := 0x1FF, ix := 0x2000 }
      [(0x1000, 0xAD), (0x1001, 0x10)] =
    some (0x2010, { Regs68.reset with sp := 0x1FD, ix := 0x2000 }, 7,
      [(0x01FE, 0x10), (0x01FF, 0x02), (0x1000, 0xAD), (0x1001, 0x10)]) := by decide

theorem test_m6800Jmp_V150 :
    run68 0x1000 Config.defaults { Regs68.reset with ix := 0xFFF0 }
      [(0x1000, 0x6E), (0x1001, 0x20)] =
    some (0x0010, { Regs68.reset with ix := 0xFFF0 }, 3,
      [(0x1000, 0x6E), (0x1001, 0x20)]) := by decide

theorem test_m6800Rts_V151 :
    run68 0x1000 Config.defaults { Regs68.reset with sp := 0x1FD }
      [(0x01FE, 0x20), (0x01FF, 0x02), (0x1000, 0x39)] =
    some (0x2002, { Regs68.reset with sp := 0x1FF }, 4,
      [(0x01FE, 0x20), (0x01FF, 0x02), (0x1000, 0x39)]) := by decide

theorem test_m6800Rti_V152 :
    run68 0x1000 Config.defaults { Regs68.reset with sp := 0x1F8 }
      [(0x01F9, 0xFF), (0x01FA, 0x22), (0x01FB, 0x11), (0x01FC, 0x12), (0x01FD, 0x34), (0x01FE, 0x56), (0x01FF, 0x78), (0x1000, 0x3B)] =
    some (0x5678, { Regs68.reset with sp := 0x1FF, a := 0x11, b := 0x22, ix := 0x1234, h := true, i := true, n := true, z := true, v := true, c := true }, 9,
      [(0x01F9, 0xFF), (0x01FA, 0x22), (0x01FB, 0x11), (0x01FC, 0x12), (0x01FD, 0x34), (0x01FE, 0x56), (0x01FF, 0x78), (0x1000, 0x3B)]) := by decide

theorem test_m6800Swi_V153 :
    run68 0x1000 Config.defaults { Regs68.reset with sp := 0x1FF, a := 0x11, b := 0x22, ix := 0x1234, c := true }
      [(0x1000, 0x3F), (0xFFFA, 0x40)] =
    some (0x4000, { Regs68.reset with sp := 0x1F8, a := 0x11, b := 0x22, ix := 0x1234, c := true, i := true }, 11,
      [(0x01F9, 0xC1), (0x01FA, 0x22), (0x01FB, 0x11), (0x01FC, 0x12), (0x01FD, 0x34), (0x01FE, 0x10), (0x01FF, 0x01), (0x1000, 0x3F), (0xFFFA, 0x40)]) := by decide

theorem test_m6800Wai_V154 :
    run68 0x1000 Config.defaults { Regs68.reset with sp := 0x1FF, a := 0x11, b := 0x22, ix := 0x1234 }
      [(0x1000, 0x3E)] =
    some (0x1001, { Regs68.reset with sp := 0x1F8, a := 0x11, b := 0x22, ix := 0x1234 }, 8,
      [(0x01F9, 0xC0), (0x01FA, 0x22), (0x01FB, 0x11), (0x01FC, 0x12), (0x01FD, 0x34), (0x01FE, 0x10), (0x01FF, 0x01), (0x1000, 0x3E)]) := by decide

theorem test_m6800Sev_V155 :
    run68 0x1000 Config.defaults { Regs68.reset with v := false }
      [(0x1000, 0x0B)] =
    some (0x1001, { Regs68.reset with v := true }, 1,
      [(0x1000, 0x0B)]) := by decide

/-! ### Examples of the instruction rules (43_m6502_load_store_transfer.md to 48_m6800_control.md) -/

theorem test_examples_m6502_1 :
    leaves65 { Regs65.reset with a := 0x00, y := 0x12 } [0xA8] = some { Regs65.reset with a := 0x00, y := 0x00, z := true } ∧
    leaves65 { Regs65.reset with y := 0xFE } [0x98] = some { Regs65.reset with y := 0xFE, a := 0xFE, n := true } ∧
    leaves65 { Regs65.reset with y := 0x7F } [0xC8] = some { Regs65.reset with y := 0x80, n := true } ∧
    leaves65 { Regs65.reset with x := 0x01 } [0xCA] = some { Regs65.reset with x := 0x00, z := true } ∧
    leaves65 { Regs65.reset with c := true } [0x18] = some { Regs65.reset with c := false } ∧
    leaves65 Regs65.reset [0x38] = some { Regs65.reset with c := true } := by decide

theorem test_examples_m6502_2 :
    leaves65 { Regs65.reset with i := true } [0x58] = some { Regs65.reset with i := false } ∧
    leaves65 { Regs65.reset with i := false } [0x78] = some { Regs65.reset with i := true } ∧
    leaves65 { Regs65.reset with d := true } [0xD8] = some { Regs65.reset with d := false } ∧
    leaves65 Regs65.reset [0xF8] = some { Regs65.reset with d := true } ∧
    leaves65 { Regs65.reset with v := true } [0xB8] = some { Regs65.reset with v := false } := by decide

theorem test_examples_m6800_1 :
    leaves68 { Regs68.reset with a := 0x12, b := 0x00 } [0x17] = some { Regs68.reset with a := 0x00, z := true } ∧
    leaves68 { Regs68.reset with b := 0x0F, c := true } [0xC9, 0x00] = some { Regs68.reset with b := 0x10, h := true } ∧
    leaves68 { Regs68.reset with b := 0x05 } [0xC0, 0x07] = some { Regs68.reset with b := 0xFE, n := true, c := true } ∧
    leaves68 Regs68.reset [0xC2, 0x00] = some { Regs68.reset with z := true } ∧
    leaves68 { Regs68.reset with b := 0x80 } [0xC1, 0x01] = some { Regs68.reset with b := 0x80, v := true } ∧
    leaves68 { Regs68.reset with b := 0xFF } [0xC4, 0x80] = some { Regs68.reset with b := 0x80, n := true } ∧
    leaves68 { Regs68.reset with b := 0x80 } [0xC5, 0xC0] = some { Regs68.reset with b := 0x80, n := true } := by decide

theorem test_examples_m6800_2 :
    leaves68 { Regs68.reset with b := 0x0F } [0xC8, 0xF0] = some { Regs68.reset with b := 0xFF, n := true } ∧
    leaves68 Regs68.reset [0x8A, 0x00] = some { Regs68.reset with z := true } ∧
    leaves68 { Regs68.reset with b := 0x80 } [0x50] = some { Regs68.reset with b := 0x80, n := true, v := true, c := true } ∧
    leaves68 Regs68.reset [0x43] = some { Regs68.reset with a := 0xFF, n := true, c := true } ∧
    leaves68 { Regs68.reset with a := 0x55, n := true, v := true, c := true } [0x4F] = some { Regs68.reset with z := true } ∧
    leaves68 { Regs68.reset with b := 0xFF, n := true, v := true, c := true } [0x5F] = some { Regs68.reset with z := true } ∧
    leaves68 { Regs68.reset with v := true, c := true } [0x5D] = some { Regs68.reset with z := true } := by decide

theorem test_examples_m6800_3 :
    leaves68 { Regs68.reset with b := 0xFF, c := true } [0x5C] = some { Regs68.reset with z := true, c := true } ∧
    leaves68 { Regs68.reset with a := 0x80 } [0x4A] = some { Regs68.reset with a := 0x7F, v := true } ∧
    leaves68 { Regs68.reset with b := 0x01 } [0x5A] = some { Regs68.reset with z := true } ∧
    leaves68 { Regs68.reset with b := 0x40 } [0x58] = some { Regs68.reset with b := 0x80, n := true, v := true } ∧
    leaves68 { Regs68.reset with b := 0x01 } [0x57] = some { Regs68.reset with c := true, z := true, v := true } ∧
    leaves68 { Regs68.reset with b := 0x80 } [0x54] = some { Regs68.reset with b := 0x40 } ∧
    leaves68 { Regs68.reset with a := 0x80, c := true } [0x49] = some { Regs68.reset with a := 0x01, c := true, v := true } := by decide

theorem test_examples_m6800_4 :
    leaves68 { Regs68.reset with a := 0x01, c := true } [0x46] = some { Regs68.reset with a := 0x80, c := true, n := true } ∧
    leaves68 { Regs68.reset with b := 0x80, c := true } [0x56] = some { Regs68.reset with b := 0xC0, n := true, v := true } ∧
    leaves68 { Regs68.reset with c := true } [0x0C] = some Regs68.reset ∧
    leaves68 Regs68.reset [0x0D] = some { Regs68.reset with c := true } ∧
    leaves68 { Regs68.reset with i := true } [0x0E] = some Regs68.reset ∧
    leaves68 Regs68.reset [0x0F] = some { Regs68.reset with i := true } ∧
    leaves68 { Regs68.reset with v := true } [0x0A] = some Regs68.reset := by decide

theorem test_examples_m6800_memory_1 :
    indexed68 { Regs68.reset with b := 0x90 } 0xE7 0x00 = some (0x90, { Regs68.reset with b := 0x90, n := true }, 5) ∧
    indexed68 Regs68.reset 0x63 0xFF = some (0x00, { Regs68.reset with z := true, c := true }, 6) ∧
    indexed68 { Regs68.reset with v := true, c := true } 0x6D 0x01 = some (0x01, Regs68.reset, 6) ∧
    indexed68 Regs68.reset 0x6C 0x00 = some (0x01, Regs68.reset, 6) := by decide

theorem test_examples_m6800_memory_2 :
    indexed68 Regs68.reset 0x68 0x80 = some (0x00, { Regs68.reset with c := true, z := true, v := true }, 6) ∧
    indexed68 Regs68.reset 0x67 0xFF = some (0xFF, { Regs68.reset with c := true, n := true }, 6) ∧
    indexed68 Regs68.reset 0x64 0xFF = some (0x7F, { Regs68.reset with c := true, v := true }, 6) ∧
    indexed68 { Regs68.reset with c := true } 0x69 0x01 = some (0x03, Regs68.reset, 6) := by decide

theorem test_examples_branches_1 :
    goes65 0x0300 { Regs65.reset with v := true } [0x50, 0x10] = some (0x0302, 1) ∧
    goes65 0x0300 { Regs65.reset with v := true } [0x70, 0x80] = some (0x0282, 3) ∧
    goes65 0x0300 { Regs65.reset with c := true } [0xB0, 0xFE] = some (0x0300, 2) ∧
    goes65 0x0600 Regs65.reset [0xEA] = some (0x0601, 1) ∧
    goes68 0x0200 { Regs68.reset with c := true } [0x24, 0x10] = some (0x0202, 3) ∧
    goes68 0x0200 { Regs68.reset with c := true } [0x25, 0x80] = some (0x0182, 3) := by decide

theorem test_examples_branches_2 :
    goes68 0x0204 Regs68.reset [0x26, 0xFC] = some (0x0202, 3) ∧
    goes68 0x0200 Regs68.reset [0x28, 0x7F] = some (0x0281, 3) ∧
    goes68 0x0200 Regs68.reset [0x29, 0x40] = some (0x0202, 3) ∧
    goes68 0x0200 Regs68.reset [0x2A, 0x00] = some (0x0202, 3) ∧
    goes68 0xFFFC { Regs68.reset with n := true } [0x2B, 0x02] = some (0x0000, 3) ∧
    goes68 0x0100 Regs68.reset [0x01] = some (0x0101, 1) := by decide

theorem test_examples_m6800_stack :
    ((after (at68 0x0200 Config.defaults { Regs68.reset with sp := 0x0100, b := 0x34 } [(0x0200, 0x37)])).map
      (fun t => (t.m6800.sp, t.readByte 0x0100))) = some (0x00FF, 0x34) ∧
    ((after (at68 0x0200 Config.defaults { Regs68.reset with sp := 0x01FE } [(0x01FF, 0x12), (0x0200, 0x32)])).map
      (fun t => (t.m6800.sp, t.m6800.a))) = some (0x01FF, 0x12) := by decide

/-! ### Interrupts, waits and faults (60_exceptions.md, 95_test_vectors.md) -/

/-- The IRQ service of R512's example. -/
theorem test_irq_service_6502 :
    (after { at65 0x0400 Config.defaults { Regs65.reset with i := false } [(0xFFFF, 0x80)] with irqLine := true }).map
      (fun t => (t.pc, t.m6502, t.remaining, t.mem)) =
    some (0x8000, { Regs65.reset with sp := 0xFA, i := true }, 6, [(0x01FB, 0x20), (0x01FD, 0x04), (0xFFFF, 0x80)]) := by
  decide

/-- IRQ is masked while I = 1: the instruction runs (R510). -/
theorem test_irq_masked_6502 :
    (after { at65 0x0400 Config.defaults Regs65.reset [(0x0400, 0xEA), (0xFFFF, 0x80)] with irqLine := true }).map
      (fun t => (t.pc, t.remaining)) = some (0x0401, 1) := by decide

/-- The NMI service of R522's example. -/
theorem test_nmi_service_6800 :
    (after ((at68 0x0400 Config.defaults { Regs68.reset with sp := 0x01FF, a := 1, b := 2, ix := 0x0304 }
      [(0xFFFC, 0x90)]).setNmiLine true)).map (fun t => ((t.pc, t.m6800.sp, t.m6800.i), t.nmiPending, t.remaining, t.mem)) =
    some ((0x9000, 0x01F8, true), false, 11,
      [(0x01F9, 0xC0), (0x01FA, 0x02), (0x01FB, 0x01), (0x01FC, 0x03), (0x01FD, 0x04), (0x01FE, 0x04),
       (0xFFFC, 0x90)]) := by decide

/-- A WAI wait ends with no second frame (R523, sequence X-5). -/
theorem test_wai_wake :
    (after { at68 0x0401 Config.defaults { Regs68.reset with sp := 0x01F8 } [(0xFFF8, 0x80)] with
      waiting := true, irqLine := true }).map (fun t => ((t.pc, t.m6800.sp, t.m6800.i), t.waiting, t.remaining, t.mem)) =
    some ((0x8000, 0x01F8, true), false, 3, [(0xFFF8, 0x80)]) := by decide

/-- HALT consumes an Idle tick (R525). -/
theorem test_halt :
    (let s := { at68 0x0400 Config.defaults Regs68.reset [(0x0400, 0x01)] with haltLine := true }
     after s = some s ∧ s.ba = true) := by decide

/-- An undefined byte (V-163 and its M6502 like, R501). -/
theorem test_unknown_opcode :
    faultOf (at68 0x0200 Config.defaults Regs68.reset [(0x0200, 0xCF)]) = some (.unknownOpcode 0xCF 0x0200) ∧
    faultOf (at65 0x0200 Config.defaults Regs65.reset [(0x0200, 0xFF)]) = some (.unknownOpcode 0xFF 0x0200) := by decide

/-- A defined byte listed in P_UNIMPLEMENTED (sequence X-9, R502). -/
theorem test_unimplemented :
    faultOf (at65 0x0202 { Config.defaults with unimplemented := [0xEA] } Regs65.reset [(0x0202, 0xEA)]) =
      some (.unimplementedInstruction 0xEA 0x0202) := by decide

/-- Reset with P_RESET_PC = vector reads each profile's own vector in its own byte order (R45). -/
theorem test_reset_vector :
    (State.construct .m6502 { Config.defaults with resetPc := .vector } [(0xFFFC, 0x34), (0xFFFD, 0x12)]).pc = 0x1234 ∧
    (State.construct .m6800 { Config.defaults with resetPc := .vector } [(0xFFFE, 0x12), (0xFFFF, 0x34)]).pc = 0x1234 := by
  decide

/-- Writing the byte an unlisted address reads as removes its entry. -/
theorem test_memory_canonical :
    memWrite [(0x0010, 0x01), (0x0020, 0x02)] 0x0010 0x00 = [(0x0020, 0x02)] ∧
    memWrite [(0x0020, 0x02)] 0xFFFF 0x01 = [(0x0020, 0x02), (0xFFFF, 0x01)] ∧
    memWf [(0x0020, 0x02), (0x0010, 0x01)] = false ∧ memWf [(0x0020, 0x00)] = false := by decide

/-- The host's accessors reach the engine's own registers only (R46). -/
theorem test_accessors :
    (State.reset.setRegister .p65 0xFF).m6502 =
      { Regs65.reset with n := true, v := true, b := true, d := true, i := true, z := true, c := true } ∧
    State.reset.setRegister .ix68 0x1234 = State.reset := by decide

/-! ### Witnesses: the hypotheses of each statement can be met together -/

/-- An Idle M6502 engine with LDA #$42 at PC. -/
def sample65 : State := at65 0x0200 Config.defaults Regs65.reset [(0x0200, 0xA9), (0x0201, 0x42)]

/-- An Idle M6800 engine with LDAA #$42 at PC. -/
def sample68 : State := at68 0x0200 Config.defaults { Regs68.reset with sp := 0x01FF } [(0x0200, 0x86), (0x0201, 0x42)]

theorem witness_Loads6502 : sample65.profile = .m6502 := rfl

theorem witness_Stores6502 : sample65.profile = .m6502 := rfl

theorem witness_Transfers6502 : sample65.profile = .m6502 := rfl

theorem witness_Logic6502 : sample65.profile = .m6502 := rfl

theorem witness_Compares6502 : sample65.profile = .m6502 := rfl

theorem witness_Jumps6502 : sample65.profile = .m6502 := rfl

theorem witness_TrapAndReturn6502 : sample65.profile = .m6502 := rfl

theorem witness_Stack6502 : sample65.profile = .m6502 := rfl

theorem witness_FlagInstructions6502 : sample65.profile = .m6502 := rfl

theorem witness_Loads6800 : sample68.profile = .m6800 := rfl

theorem witness_Stores6800 : sample68.profile = .m6800 := rfl

theorem witness_Transfers6800 : sample68.profile = .m6800 := rfl

theorem witness_Stack6800 : sample68.profile = .m6800 := rfl

theorem witness_Adds6800 : sample68.profile = .m6800 := rfl

theorem witness_Subtracts6800 : sample68.profile = .m6800 := rfl

theorem witness_Cpx6800 : sample68.profile = .m6800 := rfl

theorem witness_Logic6800 : sample68.profile = .m6800 := rfl

theorem witness_Daa6800 : sample68.profile = .m6800 := rfl

theorem witness_Branches6800 : sample68.profile = .m6800 := rfl

theorem witness_TrapAndReturn6800 : sample68.profile = .m6800 := rfl

theorem witness_FlagInstructions6800 : sample68.profile = .m6800 := rfl

theorem sample65_fetches : sample65.fetches := ⟨rfl, nofun, rfl, nofun⟩

theorem sample68_fetches : sample68.fetches := ⟨rfl, fun _ => ⟨rfl, rfl⟩, rfl, nofun⟩

/-- On the M6502 with an IRQ held but masked, and on the M6800 with the pins ignored. -/
theorem witness_StepRunsDecodedInstruction :
    (let s := { sample65 with irqLine := true }
     s.fetches ∧ WellFormed s.profile (.m6502Lda (.imm 0x42)) ∧
       decodeAt s.profile (s.readByte s.pc) (s.readByte (s.pc + 1)) (s.readByte (s.pc + 2)) =
         some (.m6502Lda (.imm 0x42)) ∧ s.readByte s.pc ∉ s.params.unimplemented) ∧
    (let s := { sample68 with params := { Config.defaults with interrupts := .ignored, unimplemented := [0x01] },
                              haltLine := true, nmiPending := true }
     s.fetches ∧ WellFormed s.profile (.m6800Ldaa (.imm 0x42)) ∧
       decodeAt s.profile (s.readByte s.pc) (s.readByte (s.pc + 1)) (s.readByte (s.pc + 2)) =
         some (.m6800Ldaa (.imm 0x42)) ∧ s.readByte s.pc ∉ s.params.unimplemented) :=
  ⟨⟨⟨rfl, nofun, rfl, fun _ => rfl⟩, by decide, by decide, by decide⟩,
    ⟨rfl, fun _ => rfl⟩, by decide, by decide, by decide⟩

theorem witness_EncodeOfDecode :
    decode .m6502 [0xA9, 0x42, 0xEA] = .ok (.m6502Lda (.imm 0x42), [0xEA]) ∧
    decode .m6800 [0xFF, 0x12, 0x34] = .ok (.m6800Stx (.ext 0x1234), []) := ⟨rfl, rfl⟩

theorem witness_UndefinedBytes :
    (let s := at65 0xFFFF Config.defaults Regs65.reset [(0xFFFF, 0xFF)]
     s.fetches ∧ lookup s.profile (s.readByte s.pc) = none) ∧
    (let s := at68 0x0000 Config.defaults Regs68.reset []
     s.fetches ∧ lookup s.profile (s.readByte s.pc) = none) :=
  ⟨⟨⟨rfl, nofun, rfl, nofun⟩, rfl⟩, ⟨rfl, fun _ => ⟨rfl, rfl⟩, rfl, nofun⟩, rfl⟩

theorem witness_StepKeepsInv :
    (sample65.Inv ∧ ∃ t, step sample65 = .next t) ∧ (sample68.Inv ∧ ∃ t, step sample68 = .next t) :=
  ⟨⟨⟨rfl, rfl, rfl, rfl⟩, _, rfl⟩, ⟨rfl, rfl⟩, _, rfl⟩

theorem witness_ResetInv :
    memWf [(0x0000, 0x01), (0xFFFF, 0xFF)] = true ∧ sample65.Inv ∧ { sample68 with waiting := true, haltLine := true }.Inv :=
  ⟨rfl, ⟨rfl, rfl, rfl, rfl⟩, rfl, rfl⟩

theorem witness_CountdownTick : 0 < { sample65 with remaining := 1 }.remaining := by decide

/-- Both ends of the countdown. -/
theorem witness_TicksOfAnInstruction :
    0 ≤ { sample65 with remaining := 6 }.remaining ∧ 6 ≤ { sample65 with remaining := 6 }.remaining := by decide

/-- A byte listed in P_UNIMPLEMENTED at PC, at both ends of the address space and on either profile. -/
theorem witness_StepOutcomes :
    (let s := at65 0x0000 { Config.defaults with unimplemented := [0x00] } Regs65.reset []
     s.fetches ∧ lookup s.profile (s.readByte s.pc) ≠ none ∧ s.readByte s.pc ∈ s.params.unimplemented) ∧
    (let s := at68 0xFFFF { Config.defaults with unimplemented := [0x01, 0xFF] } Regs68.reset [(0xFFFF, 0xFF)]
     s.fetches ∧ lookup s.profile (s.readByte s.pc) ≠ none ∧ s.readByte s.pc ∈ s.params.unimplemented) :=
  ⟨⟨⟨rfl, nofun, rfl, nofun⟩, by decide, by decide⟩, ⟨rfl, fun _ => ⟨rfl, rfl⟩, rfl, nofun⟩, by decide, by decide⟩

theorem witness_CycleTotals :
    (∃ t, exec (.m6502Lda (.abx 0x12FF)) { sample65 with m6502 := { Regs65.reset with x := 1 } } = .next t) ∧
    (sample68.profile = .m6800 ∧ sample68.params.cycles = [] ∧ ∃ t, exec .m6800Swi sample68 = .next t) ∧
    (sample65.profile = (Instr.m6502Inc (.abx 0)).profile ∧ sample65.params.cycles = []) :=
  ⟨⟨_, rfl⟩, ⟨rfl, rfl, _, rfl⟩, rfl, rfl⟩

/-- Counts of 30_encoding.md R86 and R87, read off those tables by hand, as both layouts give them. -/
theorem test_base_cycles :
    [Instr.m6502Brk, .m6502Lda (.abx 0), .m6502Sta (.abx 0), .m6502Inc (.abx 0), .m6502Ldx (.zpy 0), .m6502Pla].map
        tableCycles = [7, 4, 5, 7, 4, 4] ∧
      [0x00, 0xBD, 0x9D, 0xFE, 0xB6, 0x68].map (Config.defaultCycles .m6502) = [7, 4, 5, 7, 4, 4] ∧
    [Instr.m6800Beq 0, .m6800Jsr (.ext 0), .m6800Rti, .m6800Swi, .m6800Wai, .m6800Sts (.idx 0)].map
        tableCycles = [4, 9, 10, 12, 9, 7] ∧
      [0x27, 0xBD, 0x3B, 0x3F, 0x3E, 0xAF].map (Config.defaultCycles .m6800) = [4, 9, 10, 12, 9, 7] := by decide

theorem witness_InterruptService6502 :
    sample65.profile = .m6502 ∧ sample65.remaining = 0 ∧ sample65.params.interrupts = .serviced ∧
    (let s := { sample65 with nmiPending := true, irqLine := true }
     s.nmiPending = true ∧ s.profile = .m6502 ∧ s.remaining = 0 ∧ s.params.interrupts = .serviced) ∧
    (let s := { sample65 with irqLine := true, m6502 := { Regs65.reset with i := false } }
     s.nmiPending = false ∧ s.irqLine = true ∧ s.m6502.i = false ∧ s.profile = .m6502 ∧ s.remaining = 0 ∧
       s.params.interrupts = .serviced) := by decide

theorem witness_InterruptService6800 :
    (let s := { sample68 with nmiPending := true, irqLine := true }
     s.nmiPending = true ∧ s.profile = .m6800 ∧ s.remaining = 0 ∧ s.params.interrupts = .serviced ∧
       s.haltLine = false ∧ s.waiting = false) ∧
    (let s := { sample68 with irqLine := true }
     s.nmiPending = false ∧ s.irqLine = true ∧ s.m6800.i = false ∧ s.profile = .m6800 ∧ s.remaining = 0 ∧
       s.params.interrupts = .serviced ∧ s.haltLine = false ∧ s.waiting = false) := by decide

theorem witness_WaitTick :
    (let s := { sample68 with waiting := true, nmiPending := true }
     s.nmiPending = true ∧ s.profile = .m6800 ∧ s.remaining = 0 ∧ s.params.interrupts = .serviced ∧
       s.haltLine = false ∧ s.waiting = true) ∧
    (let s := { sample68 with waiting := true, irqLine := true }
     s.nmiPending = false ∧ s.irqLine = true ∧ s.m6800.i = false ∧ s.profile = .m6800 ∧ s.remaining = 0 ∧
       s.params.interrupts = .serviced ∧ s.haltLine = false ∧ s.waiting = true) ∧
    (let s := { sample68 with waiting := true, irqLine := true, m6800 := { Regs68.reset with i := true } }
     s.nmiPending = false ∧ (s.irqLine = true → s.m6800.i = true) ∧ s.profile = .m6800 ∧ s.remaining = 0 ∧
       s.params.interrupts = .serviced ∧ s.haltLine = false ∧ s.waiting = true) := by decide

theorem witness_HaltTick :
    (let s := { sample68 with haltLine := true, waiting := true, nmiPending := true }
     s.profile = .m6800 ∧ s.haltLine = true ∧ s.params.interrupts = .serviced ∧ s.remaining = 0) ∧
    (let s := { sample68 with haltLine := true, remaining := 1 }
     s.profile = .m6800 ∧ s.haltLine = true ∧ 0 < s.remaining) := by decide

theorem witness_IgnoredPins :
    (let s := { sample68 with params := { Config.defaults with interrupts := .ignored }, waiting := true }
     s.params.interrupts = .ignored ∧ s.profile = .m6800 ∧ s.waiting = true ∧ s.remaining = 0) ∧
    (let s := { sample65 with params := { Config.defaults with interrupts := .ignored }, nmiPending := true }
     s.params.interrupts = .ignored ∧ ∃ t, step s = .next t) := ⟨by decide, rfl, _, rfl⟩

theorem witness_ResetValues :
    sample65.profile = .m6502 ∧ sample68.profile = .m6800 ∧
    { sample65 with params := { Config.defaults with resetPc := .vector } }.params.resetPc ≠ .zero := by decide

theorem witness_NmiLatch : sample65.nmiLine = false ∧ (sample65.setNmiLine true).nmiLine = true := by decide

/-- A tick that clears the latch, and one that leaves it set. -/
theorem witness_StepLeavesHostInputs :
    (∃ t, step { sample65 with nmiPending := true } = .next t ∧ t.nmiPending = false) ∧
    (∃ t, step { sample68 with nmiPending := true, haltLine := true } = .next t ∧ t.nmiPending = true) :=
  ⟨⟨_, rfl, rfl⟩, _, rfl, rfl⟩

/-- A frame that wraps at either end of the stack. -/
theorem witness_TrapThenReturn :
    (∃ t, exec .m6800Swi { sample68 with m6800 := { Regs68.reset with sp := 0x0003, i := true } } = .next t) ∧
    (∃ t, exec .m6800Wai sample68 = .next t) ∧
    (∃ t, exec .m6502Brk { sample65 with m6502 := { Regs65.reset with sp := 0x01, d := true } } = .next t) :=
  ⟨⟨_, rfl⟩, ⟨_, rfl⟩, _, rfl⟩

theorem witness_MemoryReadAfterWrite : (0xFFFF : Word) ≠ 0x0000 := by decide

/-- Each flag of the statement does change under one of its writers. -/
theorem witness_FlagWriters :
    (∃ t, exec .m6502Cli sample65 = .next t ∧ t.m6502.i ≠ sample65.m6502.i) ∧
    (∃ t, exec .m6502Sed sample65 = .next t ∧ t.m6502.d ≠ sample65.m6502.d) ∧
    (∃ t, exec .m6502Rti { sample65 with mem := [(0x01FE, 0x10)] } = .next t ∧ t.m6502.b ≠ sample65.m6502.b) ∧
    (∃ t, exec (.m6502Adc (.imm 0x7F)) { sample65 with m6502 := { Regs65.reset with a := 0x01 } } = .next t ∧
      t.m6502.v ≠ sample65.m6502.v) ∧
    (∃ t, exec .m6800Swi sample68 = .next t ∧ t.m6800.i ≠ sample68.m6800.i) ∧
    (∃ t, exec (.m6800Adda (.imm 0x0F)) { sample68 with m6800 := { Regs68.reset with a := 0x01 } } = .next t ∧
      t.m6800.h ≠ sample68.m6800.h) :=
  ⟨⟨_, rfl, by decide⟩, ⟨_, rfl, by decide⟩, ⟨_, rfl, by decide⟩, ⟨_, rfl, by decide⟩, ⟨_, rfl, by decide⟩,
    ⟨_, rfl, by decide⟩⟩

theorem witness_IndependentOfCycleCounts :
    (let s2 := { sample65 with remaining := 5, params := { Config.defaults with cycles := [(0xA9, 9)] } }
     sample65.untimed = s2.untimed) ∧
    (let s2 := { sample65 with params := { Config.defaults with cycles := [(0xA9, 9)] } }
     sample65.untimed = s2.untimed ∧ sample65.fetches ∧ s2.fetches) :=
  ⟨rfl, rfl, sample65_fetches, rfl, nofun, rfl, nofun⟩

/-- The greatest digits: 99 + 99 and 0 - 99. -/
theorem witness_DecimalArithmetic6502 :
    (let s := { sample65 with m6502 := { Regs65.reset with a := 0x99, d := true } }
     s.profile = .m6502 ∧ s.m6502.d = true ∧ s.params.decimal6502 = .nmos ∧ isBcd s.m6502.a ∧
       isBcd ((srcOfRead (.imm 0x99)).value s)) ∧
    (let s := { sample65 with m6502 := { Regs65.reset with a := 0x00, d := true } }
     s.profile = .m6502 ∧ s.m6502.d = true ∧ s.params.decimal6502 = .nmos ∧ isBcd s.m6502.a ∧
       isBcd ((srcOfRead (.imm 0x99)).value s)) := by
  unfold isBcd
  decide

theorem witness_AddThenDaa6800 :
    (let s := { sample68 with m6800 := { Regs68.reset with a := 0x99, b := 0x99, c := true } }
     s.profile = .m6800 ∧ isBcd s.m6800.a ∧ isBcd ((srcOfRead68 (.imm 0x99)).value s) ∧ isBcd s.m6800.b) := by
  unfold isBcd
  decide

/-- D = 0; D = 1 with P_DECIMAL_6502 = binary; D = 1 with nmos, where the low sum is 10 and the high one carries. -/
theorem witness_Adc6502 :
    (sample65.profile = .m6502 ∧ sample65.m6502.d = false) ∧
    (let s := { sample65 with params := { Config.defaults with decimal6502 := .binary }
                              m6502 := { Regs65.reset with d := true } }
     s.profile = .m6502 ∧ s.params.decimal6502 = .binary) ∧
    (let s := { sample65 with m6502 := { Regs65.reset with d := true, a := 0x95 } }
     s.profile = .m6502 ∧ s.m6502.d = true ∧ s.params.decimal6502 = .nmos) := by decide

/-- D = 0; D = 1 with P_DECIMAL_6502 = binary; D = 1 with nmos, with a borrow from both nibbles. -/
theorem witness_Sbc6502 :
    (sample65.profile = .m6502 ∧ sample65.m6502.d = false) ∧
    (let s := { sample65 with params := { Config.defaults with decimal6502 := .binary }
                              m6502 := { Regs65.reset with d := true } }
     s.profile = .m6502 ∧ s.params.decimal6502 = .binary) ∧
    (let s := { sample65 with m6502 := { Regs65.reset with d := true, a := 0x00 } }
     s.profile = .m6502 ∧ s.m6502.d = true ∧ s.params.decimal6502 = .nmos) := by decide

theorem witness_IncDec6502 :
    sample65.profile = .m6502 ∧ dstOfInc (.zpx 0xFF) = .mem (.zpx 0xFF) ∧ dstOfInc (.abx 0xFFFF) = .mem (.abx 0xFFFF) := by
  decide

/-- The accumulator and a memory mode. -/
theorem witness_Shifts6502 :
    sample65.profile = .m6502 ∧ dstOfShift .acc = .acc ∧ dstOfShift (.abx 0xFFFF) = .mem (.abx 0xFFFF) := by decide

theorem witness_Branches6502 : sample65.profile = .m6502 := rfl

theorem witness_SingleOperand6800 : sample68.profile = .m6800 := rfl

theorem witness_Shifts6800 : sample68.profile = .m6800 := rfl

end Sys2Proof.Machine.Tests
end

/-!
# What a tick keeps

`step_keeps` says it once for every tick: it keeps what an instruction of the engine's profile keeps (`Keeps`), counted from
the state itself or, where the tick takes an interrupt, from the state with that interrupt acknowledged.
-/

namespace Sys2Proof.Machine

/-! ### The parts of a tick that are no instruction -/

/-- Setting the countdown keeps everything. -/
theorem Keeps.countdown (p : Profile) (s : State) (n : Nat) : Keeps p s { s with remaining := n } where
  profile := rfl
  params := rfl
  irqLine := rfl
  nmiLine := rfl
  nmiPending := rfl
  haltLine := rfl
  m6800 _ := rfl
  waiting _ := rfl
  m6502 _ := rfl
  memWf h := h

theorem Keeps.refl (p : Profile) (s : State) : Keeps p s s := Keeps.countdown p s s.remaining

/-- Beyond its own NMI latch, interrupt service keeps what an instruction keeps. -/
theorem Keeps.service (k : Interrupt) (s : State) : Keeps s.profile (s.acknowledge k) (service k s) := by
  cases hp : s.profile with
  | m6502 =>
    rw [service_of_m6502 hp]
    exact (Keeps.enter65 _ _ _ _).trans (Keeps.countdown _ _ _)
  | m6800 =>
    rw [service_of_m6800 hp]
    exact (Keeps.enter68 _ _).trans (Keeps.countdown _ _ _)

/-- Beyond the NMI latch, the end of a WAI wait keeps what an M6800 instruction keeps. -/
theorem Keeps.wake68 (k : Interrupt) (s : State) : Keeps .m6800 (s.acknowledge k) (wake68 k s) :=
  ((Keeps.of68 _ _ false _).trans (Keeps.vector68 _ _)).trans (Keeps.countdown _ _ _)

/-- A fetch that answers a next state ran an instruction of the engine's own table. -/
theorem fetchAndExecute_eq_next {s t : State} (h : fetchAndExecute s = .next t) :
    ∃ i, s.fetched = some i ∧ i.profile = s.profile ∧ exec i s = .next t := by
  unfold fetchAndExecute at h
  split at h
  · cases h
  · next i hi =>
    split at h
    · cases h
    · exact ⟨i, hi, profile_of_decodeAt hi, h⟩

/-! ### Every tick -/

/-- What any tick keeps. -/
theorem step_keeps {s t : State} (h : step s = .next t) :
    Keeps s.profile s t ∨
    ∃ k, s.remaining = 0 ∧ s.params.interrupts = .serviced ∧ interruptToTake s = some k ∧
      Keeps s.profile (s.acknowledge k) t := by
  obtain ⟨-, e⟩ | ⟨-, -, -, e⟩ | ⟨k, hr, hp, hi, -, -, hk, e⟩ | ⟨k, hr, hi, hk, e⟩ | ⟨-, e⟩ := step_cases s <;> rw [e] at h
  case inl => -- an Executing tick counts down
    cases h
    exact .inl (Keeps.countdown _ _ _)
  case inr.inl => -- a HALT or a wait stands still
    cases h
    exact .inl (Keeps.refl _ _)
  case inr.inr.inl => -- an interrupt ends a wait
    cases h
    exact .inr ⟨k, hr, hi, hk, hp ▸ Keeps.wake68 k s⟩
  case inr.inr.inr.inl => -- an interrupt is serviced
    cases h
    exact .inr ⟨k, hr, hi, hk, Keeps.service k s⟩
  case inr.inr.inr.inr => -- an instruction is fetched and executed
    obtain ⟨i, -, hip, he⟩ := fetchAndExecute_eq_next h
    obtain ⟨-, hkeeps, -⟩ := exec_eq_next he
    exact .inl (hip ▸ hkeeps)

/-- Settles O19: acknowledging an interrupt touches the NMI latch alone, and only an NMI that is latched is acknowledged on
it. -/
theorem stepLeavesHostInputs : Obligations.StepLeavesHostInputs := by
  intro s t h
  obtain k | ⟨i, hr, hi, hk, k⟩ := step_keeps h
  · exact ⟨k.profile, k.params, k.irqLine, k.nmiLine, k.haltLine, .inl k.nmiPending⟩
  · refine ⟨k.profile.trans (s.acknowledge_profile i), k.params.trans (s.acknowledge_params i),
      k.irqLine.trans (s.acknowledge_irqLine i), k.nmiLine.trans (s.acknowledge_nmiLine i),
      k.haltLine.trans (s.acknowledge_haltLine i), ?_⟩
    cases i with
    | nmi => exact .inr ⟨k.nmiPending, (interruptToTake_eq_nmi_iff s).mp hk, hr, hi⟩
    | irq => exact .inl k.nmiPending

end Sys2Proof.Machine

/-!
# The invariant and reset()

A tick keeps the invariant because it keeps what an instruction keeps (`Keeps.inv`); reset() gives it whatever the registers
held (`State.restart_inv`).
-/

namespace Sys2Proof.Machine

/-! ### The invariant -/

theorem State.inv_iff_of_m6502 {s : State} (hp : s.profile = .m6502) :
    s.Inv ↔ memWf s.mem = true ∧ s.m6800 = Regs68.reset ∧ s.waiting = false ∧ s.haltLine = false := by
  simp only [State.Inv, hp]

theorem State.inv_iff_of_m6800 {s : State} (hp : s.profile = .m6800) :
    s.Inv ↔ memWf s.mem = true ∧ s.m6502 = Regs65.reset := by
  simp only [State.Inv, hp]

/-- What keeps everything an instruction of the engine's own profile keeps, keeps the invariant. -/
theorem Keeps.inv {s t : State} (k : Keeps s.profile s t) (h : s.Inv) : t.Inv := by
  cases hp : s.profile with
  | m6502 =>
    rw [State.inv_iff_of_m6502 hp] at h
    obtain ⟨hmem, h68, hw, hh⟩ := h
    exact (State.inv_iff_of_m6502 (k.profile.trans hp)).mpr
      ⟨k.memWf hmem, (k.m6800 hp).trans h68, (k.waiting hp).trans hw, k.haltLine.trans hh⟩
  | m6800 =>
    rw [State.inv_iff_of_m6800 hp] at h
    obtain ⟨hmem, h65⟩ := h
    exact (State.inv_iff_of_m6800 (k.profile.trans hp)).mpr ⟨k.memWf hmem, (k.m6502 hp).trans h65⟩

/-- The invariant does not speak of the NMI latch. -/
theorem State.Inv.acknowledge {s : State} (h : s.Inv) (k : Interrupt) : (s.acknowledge k).Inv := by
  cases k <;> exact h

/-- Settles O6: a tick keeps what an instruction of the engine's profile keeps, from the state itself or from the state with
the interrupt it takes acknowledged. -/
theorem stepKeepsInv : Obligations.StepKeepsInv := by
  intro s t hs h
  obtain hk | ⟨k, -, -, -, hk⟩ := step_keeps h
  · exact hk.inv hs
  · rw [← s.acknowledge_profile k] at hk
    exact hk.inv (hs.acknowledge k)

/-! ### Reset and construction -/

theorem State.resetOf_inv (p : Profile) : (State.resetOf p).Inv := by
  cases p
  · exact ⟨rfl, rfl, rfl, rfl⟩
  · exact ⟨rfl, rfl⟩

/-- `reset()` brings both register files to their reset values and ends a wait; of the invariant it takes only the memory and
the HALT pin from the state before. -/
theorem State.restart_inv {s : State} (hmem : memWf s.mem = true) (hh : s.profile = .m6502 → s.haltLine = false) :
    s.restart.Inv := by
  cases hp : s.profile with
  | m6502 => exact (State.inv_iff_of_m6502 (s.restart_profile.trans hp)).mpr ⟨hmem, rfl, rfl, hh hp⟩
  | m6800 => exact (State.inv_iff_of_m6800 (s.restart_profile.trans hp)).mpr ⟨hmem, rfl⟩

theorem State.Inv.restart {s : State} (h : s.Inv) : s.restart.Inv :=
  State.restart_inv h.1 fun hp => by
    obtain ⟨-, -, -, hh⟩ := (State.inv_iff_of_m6502 hp).mp h
    exact hh

/-- Settles O7: construction is reset() on the given memory with every pin false. -/
theorem resetInv : Obligations.ResetInv :=
  ⟨State.resetOf_inv .m6502, State.resetOf_inv, fun _ _ _ hm => State.restart_inv hm fun _ => rfl,
    fun _ h => h.restart⟩

/-! ### What reset() leaves -/

/-- The packed status bytes of the reset register files (10_state.md R45). -/
theorem getP_reset : getP Regs65.reset = 0x24 := by decide

theorem getCC_reset : getCC Regs68.reset = 0xC0 := by decide

theorem resetPc_of_m6502 {s : State} (hp : s.profile = .m6502) :
    resetPc s = if s.params.resetPc = .zero then 0x0000 else w16 (s.readByte 0xFFFD) (s.readByte 0xFFFC) := by
  unfold resetPc
  cases hr : s.params.resetPc <;> simp only [hp] <;> rfl

theorem resetPc_of_m6800 {s : State} (hp : s.profile = .m6800) :
    resetPc s = if s.params.resetPc = .zero then 0x0000 else w16 (s.readByte 0xFFFE) (s.readByte 0xFFFF) := by
  unfold resetPc
  cases hr : s.params.resetPc <;> simp only [hp] <;> rfl

/-- reset() reads the parameters, the profile and memory, and leaves all three. -/
theorem State.restart_restart (s : State) : s.restart.restart = s.restart := rfl

/-- Settles O17: each field of the reset state by its value, PC by the reset vector. -/
theorem resetValues : Obligations.ResetValues := by
  refine ⟨fun s => ⟨fun hp => ?_, fun hp => ?_, rfl, rfl, rfl, rfl, rfl, rfl, rfl, rfl, fun a => ?_⟩,
    fun p c m => ⟨(State.restart_restart _).symm, rfl, rfl, rfl, rfl, rfl, rfl⟩, rfl⟩
  · exact ⟨rfl, rfl, rfl, rfl, rfl, rfl, rfl, rfl, rfl, rfl, rfl, getP_reset, resetPc_of_m6502 hp⟩
  · exact ⟨rfl, rfl, rfl, rfl, rfl, rfl, rfl, rfl, rfl, rfl, getCC_reset, resetPc_of_m6800 hp⟩
  · exact readByte_congr s.restart_mem a

end Sys2Proof.Machine

/-!
# The packed status bytes

Every bit of P and CC is one flag or a fixed 1 (`getP_bits`, `getCC_bits`); the round trips follow from the bits.
-/

namespace Sys2Proof.Machine

/-- A bit of a byte is the Boolean that stands as that binary digit of its number. -/
theorem getLsbD_of_digit {x : Byte} {k : Nat} {b : Bool} (h : x.toNat / 2 ^ k % 2 = bit b) : x.getLsbD k = b := by
  rw [BitVec.getLsbD, Nat.testBit_eq_decide_div_mod_eq, h]
  cases b <;> rfl

/-- A byte is its eight bits. -/
theorem byte_eq_of_bits {x y : Byte}
    (h : ∀ k ∈ [0, 1, 2, 3, 4, 5, 6, 7], x.getLsbD k = y.getLsbD k) : x = y := by
  have hmem : ∀ k < 8, k ∈ [0, 1, 2, 3, 4, 5, 6, 7] := by decide
  exact BitVec.eq_of_getLsbD_eq fun k hk => h k (hmem k hk)

/-- Each bit of P (10_state.md R24). -/
theorem getP_bits (r : Regs65) :
    (getP r).getLsbD 7 = r.n ∧ (getP r).getLsbD 6 = r.v ∧ (getP r).getLsbD 5 = true ∧ (getP r).getLsbD 4 = r.b ∧
    (getP r).getLsbD 3 = r.d ∧ (getP r).getLsbD 2 = r.i ∧ (getP r).getLsbD 1 = r.z ∧ (getP r).getLsbD 0 = r.c := by
  have := bit_le r.n; have := bit_le r.v; have := bit_le r.b; have := bit_le r.d
  have := bit_le r.i; have := bit_le r.z; have := bit_le r.c
  have h5 : bit true = 1 := rfl
  refine ⟨?_, ?_, ?_, ?_, ?_, ?_, ?_, ?_⟩ <;> apply getLsbD_of_digit <;> rw [getP, BitVec.toNat_ofNat] <;> omega

/-- Each bit of CC (10_state.md R35). -/
theorem getCC_bits (r : Regs68) :
    (getCC r).getLsbD 7 = true ∧ (getCC r).getLsbD 6 = true ∧ (getCC r).getLsbD 5 = r.h ∧ (getCC r).getLsbD 4 = r.i ∧
    (getCC r).getLsbD 3 = r.n ∧ (getCC r).getLsbD 2 = r.z ∧ (getCC r).getLsbD 1 = r.v ∧ (getCC r).getLsbD 0 = r.c := by
  have := bit_le r.h; have := bit_le r.i; have := bit_le r.n; have := bit_le r.z
  have := bit_le r.v; have := bit_le r.c
  have h76 : bit true = 1 := rfl
  refine ⟨?_, ?_, ?_, ?_, ?_, ?_, ?_, ?_⟩ <;> apply getLsbD_of_digit <;> rw [getCC, BitVec.toNat_ofNat] <;> omega

/-- P reads back the byte written to it, with bit 5 set. -/
theorem getP_setP (r : Regs65) (p : Byte) : getP (setP r p) = p ||| 0x20#8 := by
  apply byte_eq_of_bits
  simp only [List.forall_mem_cons, getP_bits, BitVec.getLsbD_or]
  simp [setP]

theorem setP_getP (r : Regs65) : setP r (getP r) = r := by
  simp only [setP, getP_bits]

/-- CC reads back the byte written to it, with bits 7 and 6 set. -/
theorem getCC_setCC (r : Regs68) (p : Byte) : getCC (setCC r p) = p ||| 0xC0#8 := by
  apply byte_eq_of_bits
  simp only [List.forall_mem_cons, getCC_bits, BitVec.getLsbD_or]
  simp [setCC]

theorem setCC_getCC (r : Regs68) : setCC r (getCC r) = r := by
  simp only [setCC, getCC_bits]

/-- Settles O24, from the bits of P. -/
theorem statusByteP : Obligations.StatusByteP :=
  ⟨getP_bits, fun _ _ => rfl, fun r p => ⟨getP_setP r p, setP_getP r⟩⟩

/-- Settles O25, from the bits of CC. -/
theorem conditionCodeByte : Obligations.ConditionCodeByte :=
  ⟨getCC_bits, fun _ _ => rfl, fun r p => ⟨getCC_setCC r p, setCC_getCC r⟩⟩

end Sys2Proof.Machine

/-!
# The flags that few instructions write

`rareFlags` lists, by instruction, which of I, D, B and V of the M6502 and of I and H of the M6800 it can write. Each shape
of instruction spares the flags that its register-file operation spares, so one case split over the instructions, grouped
by shape, gives `exec_spares65` and `exec_spares68`.
-/

namespace Sys2Proof.Machine

/-- Which of the flags I, D, B and V of the M6502 and I and H of the M6800 an instruction can write. -/
def rareFlags : Instr → List FlagName
  | .m6502Sei | .m6502Cli | .m6502Brk => [.i65]
  | .m6502Sed | .m6502Cld => [.d65]
  | .m6502Adc _ | .m6502Sbc _ | .m6502Bit _ | .m6502Clv => [.v65]
  | .m6502Plp | .m6502Rti => [.i65, .d65, .b65, .v65]
  | .m6800Sei | .m6800Cli | .m6800Swi => [.i68]
  | .m6800Adda _ | .m6800Addb _ | .m6800Adca _ | .m6800Adcb _ | .m6800Aba => [.h68]
  | .m6800Tap | .m6800Rti => [.i68, .h68]
  | _ => []

/-- `r'` has the I, D, B and V of `r`, but for the flags listed. -/
structure Spares65 (listed : List FlagName) (r r' : Regs65) : Prop where
  i : .i65 ∉ listed → r'.i = r.i
  d : .d65 ∉ listed → r'.d = r.d
  b : .b65 ∉ listed → r'.b = r.b
  v : .v65 ∉ listed → r'.v = r.v

/-- `r'` has the I and H of `r`, but for the flags listed. -/
structure Spares68 (listed : List FlagName) (r r' : Regs68) : Prop where
  i : .i68 ∉ listed → r'.i = r.i
  h : .h68 ∉ listed → r'.h = r.h

section
variable {listed : List FlagName} {i : Instr} {s t : State}

/-! ### The register file of the M6502 -/

theorem Spares65.of_same {r r' : Regs65} (hi : r'.i = r.i) (hd : r'.d = r.d) (hb : r'.b = r.b) (hv : r'.v = r.v) :
    Spares65 listed r r' := ⟨fun _ => hi, fun _ => hd, fun _ => hb, fun _ => hv⟩

theorem Spares65.of_eq {r r' : Regs65} (h : r' = r) : Spares65 listed r r' := by
  subst h
  exact .of_same rfl rfl rfl rfl

/-- Everything but I stands. -/
theorem Spares65.of_i {r r' : Regs65} (hd : r'.d = r.d) (hb : r'.b = r.b) (hv : r'.v = r.v) : Spares65 [.i65] r r' :=
  ⟨fun h => absurd (by decide) h, fun _ => hd, fun _ => hb, fun _ => hv⟩

/-- Everything but D stands. -/
theorem Spares65.of_d {r r' : Regs65} (hi : r'.i = r.i) (hb : r'.b = r.b) (hv : r'.v = r.v) : Spares65 [.d65] r r' :=
  ⟨fun _ => hi, fun h => absurd (by decide) h, fun _ => hb, fun _ => hv⟩

/-- Everything but V stands. -/
theorem Spares65.of_v {r r' : Regs65} (hi : r'.i = r.i) (hd : r'.d = r.d) (hb : r'.b = r.b) : Spares65 [.v65] r r' :=
  ⟨fun _ => hi, fun _ => hd, fun _ => hb, fun h => absurd (by decide) h⟩

/-- An instruction that writes all four flags spares nothing. -/
theorem Spares65.of_all (r r' : Regs65) : Spares65 [.i65, .d65, .b65, .v65] r r' :=
  ⟨fun h => absurd (by decide) h, fun h => absurd (by decide) h, fun h => absurd (by decide) h,
    fun h => absurd (by decide) h⟩

theorem Spares65.adc65 (mode : Config.Decimal) (m : Byte) (r : Regs65) : Spares65 [.v65] r (adc65 mode m r) := by
  unfold Machine.adc65
  split <;> exact .of_v rfl rfl rfl

theorem Spares65.sbc65 (mode : Config.Decimal) (m : Byte) (r : Regs65) : Spares65 [.v65] r (sbc65 mode m r) := by
  unfold Machine.sbc65
  split <;> exact .of_v rfl rfl rfl

/-! ### Each shape of the M6502 -/

theorem Spares65.of_run {extra : Nat} {body : State → State} (h : run i extra body s = .next t)
    (hf : Spares65 listed s.m6502 (body (s.advance i.size)).m6502) : Spares65 listed s.m6502 t.m6502 := by
  obtain ⟨-, rfl⟩ := run_eq_next h
  exact hf

theorem Spares65.of_regs65 {f : Regs65 → Regs65} (h : regs65 i f s = .next t) (hf : Spares65 listed s.m6502 (f s.m6502)) :
    Spares65 listed s.m6502 t.m6502 := .of_run h hf

theorem Spares65.of_read65 {src : Src65} {f : Byte → Regs65 → Regs65} (h : read65 i src f s = .next t)
    (hf : ∀ v, Spares65 listed s.m6502 (f v s.m6502)) : Spares65 listed s.m6502 t.m6502 := .of_run h (hf _)

theorem Spares65.of_store65 {ea : Ea65} {value : Regs65 → Byte} (h : store65 i ea value s = .next t) :
    Spares65 listed s.m6502 t.m6502 := .of_run h (.of_eq rfl)

theorem Spares65.of_rmw65 {dst : Dst65} {f : Byte → Regs65 → Byte × Regs65} (h : rmw65 i dst f s = .next t)
    (hf : ∀ x r, Spares65 listed r (f x r).2) : Spares65 listed s.m6502 t.m6502 := by
  refine .of_run h ?_
  cases dst with
  | acc =>
    obtain ⟨hi, hd, hb, hv⟩ := hf s.m6502.a s.m6502
    exact ⟨hi, hd, hb, hv⟩
  | mem ea => exact hf _ _

theorem Spares65.of_branch65 {off : Byte} {cond : Regs65 → Bool} (h : branch65 i off cond s = .next t) :
    Spares65 listed s.m6502 t.m6502 := by
  refine .of_run h (.of_eq ?_)
  split <;> rfl

/-- Of I, D, B and V an M6502 instruction writes those of its list, and an M6800 instruction writes none. -/
theorem exec_spares65 (h : exec i s = .next t) : Spares65 (rareFlags i) s.m6502 t.m6502 := by
  obtain ⟨-, hk, -⟩ := exec_eq_next h
  cases i <;> dsimp only [exec] at h
  case m6502Lda | m6502Ldx | m6502Ldy | m6502And | m6502Ora | m6502Eor | m6502Cmp | m6502Cpx | m6502Cpy =>
    exact .of_read65 h fun _ => .of_same rfl rfl rfl rfl
  case m6502Adc => exact .of_read65 h fun v => .adc65 _ v _
  case m6502Sbc => exact .of_read65 h fun v => .sbc65 _ v _
  case m6502Bit => exact .of_read65 h fun _ => .of_v rfl rfl rfl
  case m6502Sta | m6502Stx | m6502Sty => exact .of_store65 h
  case m6502Tax | m6502Tay | m6502Txa | m6502Tya | m6502Tsx | m6502Txs | m6502Inx | m6502Iny | m6502Dex | m6502Dey |
      m6502Clc | m6502Sec =>
    exact .of_regs65 h (.of_same rfl rfl rfl rfl)
  case m6502Cli | m6502Sei => exact .of_regs65 h (.of_i rfl rfl rfl)
  case m6502Cld | m6502Sed => exact .of_regs65 h (.of_d rfl rfl rfl)
  case m6502Clv => exact .of_regs65 h (.of_v rfl rfl rfl)
  case m6502Inc | m6502Dec | m6502Asl | m6502Lsr | m6502Rol | m6502Ror =>
    exact .of_rmw65 h fun _ _ => .of_same rfl rfl rfl rfl
  case m6502Bpl | m6502Bmi | m6502Bvc | m6502Bvs | m6502Bcc | m6502Bcs | m6502Bne | m6502Beq => exact .of_branch65 h
  case m6502Jmp | m6502Rts | m6502Pha | m6502Php | m6502Pla | m6502Nop => exact .of_run h (.of_same rfl rfl rfl rfl)
  case m6502Jsr => exact .of_run h (.of_same (by simp) (by simp) (by simp) (by simp))
  case m6502Brk => exact .of_run h (by rw [enter65_eq]; exact .of_i rfl rfl rfl)
  case m6502Plp | m6502Rti => exact .of_all _ _
  all_goals exact .of_eq (hk.m6502 rfl) -- the M6800 has no such flag

/-! ### The register file of the M6800 -/

theorem Spares68.of_same {r r' : Regs68} (hi : r'.i = r.i) (hh : r'.h = r.h) : Spares68 listed r r' :=
  ⟨fun _ => hi, fun _ => hh⟩

theorem Spares68.of_eq {r r' : Regs68} (h : r' = r) : Spares68 listed r r' := by
  subst h
  exact .of_same rfl rfl

/-- H stands. -/
theorem Spares68.of_i {r r' : Regs68} (hh : r'.h = r.h) : Spares68 [.i68] r r' :=
  ⟨fun h => absurd (by decide) h, fun _ => hh⟩

/-- I stands. -/
theorem Spares68.of_h {r r' : Regs68} (hi : r'.i = r.i) : Spares68 [.h68] r r' :=
  ⟨fun _ => hi, fun h => absurd (by decide) h⟩

/-- An instruction that writes both flags spares nothing. -/
theorem Spares68.of_all (r r' : Regs68) : Spares68 [.i68, .h68] r r' :=
  ⟨fun h => absurd (by decide) h, fun h => absurd (by decide) h⟩

/-! ### Each shape of the M6800 -/

theorem Spares68.of_run {extra : Nat} {body : State → State} (h : run i extra body s = .next t)
    (hf : Spares68 listed s.m6800 (body (s.advance i.size)).m6800) : Spares68 listed s.m6800 t.m6800 := by
  obtain ⟨-, rfl⟩ := run_eq_next h
  exact hf

theorem Spares68.of_regs68 {f : Regs68 → Regs68} (h : regs68 i f s = .next t)
    (hf : Spares68 listed s.m6800 (f s.m6800)) : Spares68 listed s.m6800 t.m6800 := .of_run h hf

theorem Spares68.of_read68 {src : Src68} {f : Byte → Regs68 → Regs68} (h : read68 i src f s = .next t)
    (hf : ∀ v, Spares68 listed s.m6800 (f v s.m6800)) : Spares68 listed s.m6800 t.m6800 := .of_run h (hf _)

theorem Spares68.of_read68W {src : Src68W} {f : Word → Regs68 → Regs68} (h : read68W i src f s = .next t)
    (hf : ∀ v, Spares68 listed s.m6800 (f v s.m6800)) : Spares68 listed s.m6800 t.m6800 := .of_run h (hf _)

theorem Spares68.of_store68 {ea : Ea68} {value : Regs68 → Byte} (h : store68 i ea value s = .next t) :
    Spares68 listed s.m6800 t.m6800 := .of_run h (.of_same rfl rfl)

theorem Spares68.of_store68W {ea : Ea68} {value : Regs68 → Word} (h : store68W i ea value s = .next t) :
    Spares68 listed s.m6800 t.m6800 := .of_run h (.of_same rfl rfl)

theorem Spares68.of_rmw68 {dst : Dst68} {f : Byte → Regs68 → Byte × Regs68} (h : rmw68 i dst f s = .next t)
    (hf : ∀ x r, Spares68 listed r (f x r).2) : Spares68 listed s.m6800 t.m6800 := by
  refine .of_run h ?_
  cases dst with
  | accA =>
    obtain ⟨hi, hh⟩ := hf s.m6800.a s.m6800
    exact ⟨hi, hh⟩
  | accB =>
    obtain ⟨hi, hh⟩ := hf s.m6800.b s.m6800
    exact ⟨hi, hh⟩
  | mem ea => exact hf _ _

theorem Spares68.of_branch68 {off : Byte} {cond : Regs68 → Bool} (h : branch68 i off cond s = .next t) :
    Spares68 listed s.m6800 t.m6800 := by
  refine .of_run h (.of_eq ?_)
  split <;> rfl

/-- An addition to an accumulator writes H and leaves I (42_alu.md R165). -/
theorem Spares68.addAcc (acc : Acc) (v : Byte) (cin : Bool) (r : Regs68) : Spares68 [.h68] r (addAcc acc v cin r) := by
  cases acc <;> exact .of_h rfl

/-- Of I and H an M6800 instruction writes those of its list, and an M6502 instruction writes none. -/
theorem exec_spares68 (h : exec i s = .next t) : Spares68 (rareFlags i) s.m6800 t.m6800 := by
  obtain ⟨-, hk, -⟩ := exec_eq_next h
  cases i <;> dsimp only [exec] at h
  case m6800Ldaa | m6800Ldab | m6800Suba | m6800Subb | m6800Sbca | m6800Sbcb | m6800Cmpa | m6800Cmpb | m6800Anda |
      m6800Andb | m6800Bita | m6800Bitb | m6800Eora | m6800Eorb | m6800Oraa | m6800Orab | m6800Tst =>
    exact .of_read68 h fun _ => .of_same rfl rfl
  case m6800Adda | m6800Addb | m6800Adca | m6800Adcb => exact .of_read68 h fun _ => .addAcc _ _ _ _
  case m6800Aba => exact .of_regs68 h (.addAcc _ _ _ _)
  case m6800Lds | m6800Ldx | m6800Cpx => exact .of_read68W h fun _ => .of_same rfl rfl
  case m6800Staa | m6800Stab => exact .of_store68 h
  case m6800Sts | m6800Stx => exact .of_store68W h
  case m6800Tab | m6800Tba | m6800Tpa | m6800Tsx | m6800Txs | m6800Inx | m6800Dex | m6800Ins | m6800Des | m6800Sba |
      m6800Cba | m6800Clra | m6800Clrb | m6800Tsta | m6800Tstb | m6800Clc | m6800Sec | m6800Clv | m6800Sev =>
    exact .of_regs68 h (.of_same rfl rfl)
  case m6800Cli | m6800Sei => exact .of_regs68 h (.of_i rfl)
  case m6800Nega | m6800Negb | m6800Neg | m6800Coma | m6800Comb | m6800Com | m6800Inca | m6800Incb | m6800Inc |
      m6800Deca | m6800Decb | m6800Dec | m6800Asla | m6800Aslb | m6800Asl | m6800Asra | m6800Asrb | m6800Asr |
      m6800Lsra | m6800Lsrb | m6800Lsr | m6800Rola | m6800Rolb | m6800Rol | m6800Rora | m6800Rorb | m6800Ror =>
    exact .of_rmw68 h fun _ _ => .of_same rfl rfl
  case m6800Bra | m6800Bhi | m6800Bls | m6800Bcc | m6800Bcs | m6800Bne | m6800Beq | m6800Bvc | m6800Bvs | m6800Bpl |
      m6800Bmi | m6800Bge | m6800Blt | m6800Bgt | m6800Ble =>
    exact .of_branch68 h
  case m6800Psha | m6800Pshb | m6800Pula | m6800Pulb | m6800Daa | m6800Clr | m6800Jmp | m6800Rts | m6800Nop =>
    exact .of_run h (.of_same rfl rfl)
  case m6800Bsr | m6800Jsr => exact .of_run h (by rw [push16At68_eq]; exact .of_same rfl rfl)
  case m6800Wai => exact .of_run h (by rw [pushFrame68_eq]; exact .of_same rfl rfl)
  case m6800Swi => exact .of_run h (by rw [enter68_eq]; exact .of_i rfl)
  case m6800Tap | m6800Rti => exact .of_all _ _
  all_goals exact .of_eq (hk.m6800 rfl) -- the M6502 has no such flag

/-! ### The writers of each flag -/

theorem rareFlags_writers (i : Instr) :
    (.i65 ∈ rareFlags i → i ∈ [Instr.m6502Sei, .m6502Cli, .m6502Plp, .m6502Rti, .m6502Brk]) ∧
    (.d65 ∈ rareFlags i → i ∈ [Instr.m6502Sed, .m6502Cld, .m6502Plp, .m6502Rti]) ∧
    (.b65 ∈ rareFlags i → i ∈ [Instr.m6502Plp, .m6502Rti]) ∧
    (.v65 ∈ rareFlags i → (∃ m, i = .m6502Adc m ∨ i = .m6502Sbc m) ∨ (∃ m, i = .m6502Bit m) ∨
      i ∈ [Instr.m6502Clv, .m6502Plp, .m6502Rti]) ∧
    (.i68 ∈ rareFlags i → i ∈ [Instr.m6800Sei, .m6800Cli, .m6800Tap, .m6800Rti, .m6800Swi]) ∧
    (.h68 ∈ rareFlags i →
      (∃ m, i = .m6800Adda m ∨ i = .m6800Addb m ∨ i = .m6800Adca m ∨ i = .m6800Adcb m) ∨
      i ∈ [Instr.m6800Aba, .m6800Tap, .m6800Rti]) := by
  unfold rareFlags
  split <;> simp

end

/-- Settles O29: a flag that changed is one of those the instruction writes, and each of these has its few writers. -/
theorem flagWriters : Obligations.FlagWriters := by
  intro i s t h
  have h65 := exec_spares65 h
  have h68 := exec_spares68 h
  obtain ⟨hi65, hd65, hb65, hv65, hi68, hh68⟩ := rareFlags_writers i
  exact ⟨fun hne => hi65 (by_contra fun hn => hne (h65.i hn)), fun hne => hd65 (by_contra fun hn => hne (h65.d hn)),
    fun hne => hb65 (by_contra fun hn => hne (h65.b hn)), fun hne => hv65 (by_contra fun hn => hne (h65.v hn)),
    fun hne => hi68 (by_contra fun hn => hne (h68.i hn)), fun hne => hh68 (by_contra fun hn => hne (h68.h hn))⟩

end Sys2Proof.Machine

/-!
# The bus (20_memory.md)

A write sets one byte. That a read of any address gives a byte (R60) is `State.readByte` being total.
-/

namespace Sys2Proof.Machine

/-- Settles O28: the read after a write is `readByte_writeByte` at the address written and at any other, and a write
replaces the field `mem` alone. -/
theorem memoryReadAfterWrite : Obligations.MemoryReadAfterWrite := by
  intro s a v
  refine ⟨?same, fun b hne => ?other, rfl⟩
  case same => rw [readByte_writeByte, if_pos rfl]
  case other => rw [readByte_writeByte, if_neg hne]

end Sys2Proof.Machine

/-!
# The decoder and the encoder (30_encoding.md)

The opcode map is read in both directions. `encodes_of_lookup` says that what an entry gives is encoded with the entry's
opcode byte; `lookup_opcode` is the other direction, that every instruction is given by the entry at its own opcode byte.
-/

namespace Sys2Proof

/-- The entry gives the instruction for some operand. -/
def Shape.Gives (i : Instr) : Shape → Prop
  | .alone j => j = i
  | .byte f => ∃ b, f b = i
  | .lowFirst f => ∃ w, f w = i
  | .highFirst f => ∃ w, f w = i

/-- Every form of every mnemonic stands in its profile's opcode map, at its opcode byte (R86, R87). -/
theorem lookup_opcode (i : Instr) : ∃ sh, lookup i.profile i.opcode = some sh ∧ sh.Gives i := by
  cases i
  -- the mnemonics with a mode: every form has an operand, but for the accumulator form
  case m6502Asl m | m6502Lsr m | m6502Rol m | m6502Ror m =>
    cases m
    case acc => exact ⟨_, rfl, rfl⟩
    all_goals
      dsimp only [Instr.opcode, encode, List.headD]
      exact ⟨_, rfl, _, rfl⟩
  case m6502Lda m | m6502Adc m | m6502Sbc m | m6502And m | m6502Ora m | m6502Eor m | m6502Cmp m | m6502Ldx m |
      m6502Ldy m | m6502Sta m | m6502Stx m | m6502Sty m | m6502Cpx m | m6502Cpy m | m6502Bit m | m6502Inc m |
      m6502Dec m | m6502Jmp m | m6800Ldaa m | m6800Ldab m | m6800Adda m | m6800Addb m | m6800Adca m | m6800Adcb m |
      m6800Suba m | m6800Subb m | m6800Sbca m | m6800Sbcb m | m6800Cmpa m | m6800Cmpb m | m6800Anda m | m6800Andb m |
      m6800Bita m | m6800Bitb m | m6800Eora m | m6800Eorb m | m6800Oraa m | m6800Orab m | m6800Lds m | m6800Ldx m |
      m6800Cpx m | m6800Staa m | m6800Stab m | m6800Sts m | m6800Stx m | m6800Neg m | m6800Com m | m6800Clr m |
      m6800Tst m | m6800Inc m | m6800Dec m | m6800Asl m | m6800Asr m | m6800Lsr m | m6800Rol m | m6800Ror m |
      m6800Jmp m | m6800Jsr m =>
    cases m <;> dsimp only [Instr.opcode, encode, List.headD] <;> exact ⟨_, rfl, _, rfl⟩
  -- the relative branches and JSR, whose one form has an operand
  case m6502Bpl | m6502Bmi | m6502Bvc | m6502Bvs | m6502Bcc | m6502Bcs | m6502Bne | m6502Beq | m6502Jsr | m6800Bra |
      m6800Bhi | m6800Bls | m6800Bcc | m6800Bcs | m6800Bne | m6800Beq | m6800Bvc | m6800Bvs | m6800Bpl | m6800Bmi |
      m6800Bge | m6800Blt | m6800Bgt | m6800Ble | m6800Bsr =>
    dsimp only [Instr.opcode, encode, List.headD]
    exact ⟨_, rfl, _, rfl⟩
  -- the mnemonics with no operand
  all_goals exact ⟨_, rfl, rfl⟩

/-- The encoding of an instruction that an entry gives is read back by that entry, and the bytes after it are left. -/
theorem decode_encode_of_lookup {p : Profile} {op : Byte} {sh : Shape} {i : Instr} (hl : lookup p op = some sh)
    (hg : sh.Gives i) (rest : List Byte) : decode p (encode i ++ rest) = .ok (i, rest) := by
  have he := encodes_of_lookup hl
  cases sh with
  | alone j =>
    obtain rfl := hg
    simp [he.2, decode, hl]
  | byte f =>
    obtain ⟨b, rfl⟩ := hg
    simp [(he b).2, decode, hl]
  | lowFirst f =>
    obtain ⟨w, rfl⟩ := hg
    simp [(he w).2, decode, hl]
  | highFirst f =>
    obtain ⟨w, rfl⟩ := hg
    simp [(he w).2, decode, hl]

/-- What an entry reads from the bytes after its opcode byte is an instruction of the profile, encoded by the bytes read. -/
theorem encode_of_decode_of_lookup {p : Profile} {op : Byte} {sh : Shape} {i : Instr} {operands rest : List Byte}
    (hl : lookup p op = some sh) (h : decode p (op :: operands) = .ok (i, rest)) :
    i.profile = p ∧ op :: operands = encode i ++ rest := by
  have he := encodes_of_lookup hl
  cases sh with
  | alone j =>
    simp only [decode, hl, Except.ok.injEq, Prod.mk.injEq] at h
    obtain ⟨rfl, rfl⟩ := h
    simp [he.1, he.2]
  | byte f =>
    match operands with
    | [] => simp [decode, hl] at h
    | b :: _ =>
      simp only [decode, hl, Except.ok.injEq, Prod.mk.injEq] at h
      obtain ⟨rfl, rfl⟩ := h
      simp [he b]
  | lowFirst f =>
    match operands with
    | [] | [_] => simp [decode, hl] at h
    | b1 :: b2 :: _ =>
      simp only [decode, hl, Except.ok.injEq, Prod.mk.injEq] at h
      obtain ⟨rfl, rfl⟩ := h
      simp [he (Machine.w16 b2 b1)]
  | highFirst f =>
    match operands with
    | [] | [_] => simp [decode, hl] at h
    | b1 :: b2 :: _ =>
      simp only [decode, hl, Except.ok.injEq, Prod.mk.injEq] at h
      obtain ⟨rfl, rfl⟩ := h
      simp [he (Machine.w16 b1 b2)]

/-- Settles O3: the entry at an instruction's own opcode byte gives it, and so reads its encoding back. -/
theorem decodeOfEncode : Obligations.DecodeOfEncode := by
  intro i rest
  obtain ⟨sh, hl, hg⟩ := lookup_opcode i
  exact decode_encode_of_lookup hl hg rest

/-- Settles O4: only an opcode byte with an entry decodes, and the entry agrees with the encoder. -/
theorem encodeOfDecode : Obligations.EncodeOfDecode := by
  intro p bytes i rest h
  cases bytes with
  | nil => simp [decode] at h
  | cons op operands =>
    cases hl : lookup p op with
    | none => simp [decode, hl] at h
    | some sh => exact encode_of_decode_of_lookup hl h

/-- Settles O2: each word is read with the entry its opcode byte has in the profile's map. -/
theorem decodeSpecWords : Obligations.DecodeSpecWords :=
  ⟨rfl, rfl, rfl, rfl, rfl, rfl, rfl, rfl, rfl, rfl, rfl, rfl, rfl, rfl, rfl⟩

/-! ### The undefined bytes -/

/-- The bytes with no entry in the opcode map of the profile, in rising order. -/
def absentBytes (p : Profile) : List Byte :=
  ((List.range 256).map (BitVec.ofNat 8)).filter fun op => !isDefined p op

theorem mem_absentBytes {p : Profile} {op : Byte} : op ∈ absentBytes p ↔ lookup p op = none := by
  have hmem : op ∈ (List.range 256).map (BitVec.ofNat 8) :=
    List.mem_map.mpr ⟨op.toNat, List.mem_range.mpr op.isLt, by simp⟩
  simp [absentBytes, hmem, isDefined]

/-- A list that the map's absent bytes evaluate to decides which bytes have no entry. -/
theorem lookup_eq_none_iff_mem {p : Profile} {listed : List Byte} (h : absentBytes p = listed) (op : Byte) :
    lookup p op = none ↔ op ∈ listed := by
  rw [← h, mem_absentBytes]

/-- Settles O5: the absent bytes of each map evaluate to the list of R91, and a fetch of a byte with no entry faults. -/
theorem undefinedBytes : Obligations.UndefinedBytes := by
  refine ⟨lookup_eq_none_iff_mem (by decide), lookup_eq_none_iff_mem (by decide), fun s hf hl => ?_⟩
  rw [Machine.step_of_fetches hf, Machine.fetchAndExecute_of_lookup_none hl]

end Sys2Proof

/-!
# The execution cycle (40_execution_cycle.md)

What a tick answers (R100 to R102), and what a run of ticks does to the countdown (R105). `step_cases` says which branch a
tick takes; only the fetch can end in a fault.
-/

namespace Sys2Proof.Machine

/-! ### One tick -/

/-- A fetch of a byte that has an entry and is in P_UNIMPLEMENTED (60_exceptions.md R502). -/
theorem fetchAndExecute_of_unimplemented {s : State} (hl : lookup s.profile (s.readByte s.pc) ≠ none)
    (hu : s.readByte s.pc ∈ s.params.unimplemented) :
    fetchAndExecute s = .fault (.unimplementedInstruction (s.readByte s.pc) s.pc) := by
  obtain ⟨i, hi⟩ := exists_decodeAt hl (s.readByte (s.pc + 1)) (s.readByte (s.pc + 2))
  rw [fetchAndExecute_of_decoded hi, if_pos (List.contains_iff_mem.mpr hu)]

/-- A fetch of a decoded instruction whose byte is not in P_UNIMPLEMENTED runs the instruction (R101). -/
theorem fetchAndExecute_of_implemented {s : State} {i : Instr}
    (hi : decodeAt s.profile (s.readByte s.pc) (s.readByte (s.pc + 1)) (s.readByte (s.pc + 2)) = some i)
    (hu : s.readByte s.pc ∉ s.params.unimplemented) : fetchAndExecute s = exec i s := by
  rw [fetchAndExecute_of_decoded hi, if_neg fun h => hu (List.contains_iff_mem.mp h)]

/-- Everything a fetch can do: fault on a byte with no entry, fault on a byte in P_UNIMPLEMENTED, or run an instruction of
the engine's own table, which is never refused. -/
theorem fetchAndExecute_cases (s : State) :
    (∃ t, fetchAndExecute s = .next t) ∨
    (lookup s.profile (s.readByte s.pc) = none ∧
      fetchAndExecute s = .fault (.unknownOpcode (s.readByte s.pc) s.pc)) ∨
    (lookup s.profile (s.readByte s.pc) ≠ none ∧ s.readByte s.pc ∈ s.params.unimplemented ∧
      fetchAndExecute s = .fault (.unimplementedInstruction (s.readByte s.pc) s.pc)) := by
  by_cases hl : lookup s.profile (s.readByte s.pc) = none
  · exact .inr (.inl ⟨hl, fetchAndExecute_of_lookup_none hl⟩)
  by_cases hu : s.readByte s.pc ∈ s.params.unimplemented
  · exact .inr (.inr ⟨hl, hu, fetchAndExecute_of_unimplemented hl hu⟩)
  · obtain ⟨i, hi⟩ := exists_decodeAt hl (s.readByte (s.pc + 1)) (s.readByte (s.pc + 2))
    rw [fetchAndExecute_of_implemented hi hu]
    exact .inl (exec_next_of_profile (profile_of_decodeAt hi).symm)

/-- Settles O8: every branch of a tick but the fetch answers a next state. -/
theorem stepOutcomes : Obligations.StepOutcomes := by
  refine ⟨fun s => ?_, fun s hf hl hu => (step_of_fetches hf).trans (fetchAndExecute_of_unimplemented hl hu)⟩
  obtain ⟨-, e⟩ | ⟨-, -, -, e⟩ | ⟨k, -, -, -, -, -, -, e⟩ | ⟨k, -, -, -, e⟩ | ⟨hf, e⟩ := step_cases s
  case inr.inr.inr.inr => -- the fetch
    rw [e]
    obtain ht | ⟨hl, hfault⟩ | ⟨hl, hu, hfault⟩ := fetchAndExecute_cases s
    · exact .inl ht
    · exact .inr (.inl ⟨hf, hl, hfault⟩)
    · exact .inr (.inr ⟨hf, hl, hu, hfault⟩)
  all_goals exact .inl ⟨_, e⟩

/-- Settles O1: a tick that reaches the fetch is the fetch, and the fetch is the instruction. -/
theorem stepRunsDecodedInstruction : Obligations.StepRunsDecodedInstruction := by
  intro s i hf _ hi hu
  rw [step_of_fetches hf, fetchAndExecute_of_implemented hi hu]

/-- Settles O9: the countdown is looked at before anything else. -/
theorem countdownTick : Obligations.CountdownTick := fun _ h => step_of_counting h

/-! ### A run of ticks -/

/-- A run goes on from the next state of its first step. -/
theorem run_succ_of_step {M : Host.Core} {s t : M.State} (h : M.step s = .next t) (k : Nat) :
    M.run (k + 1) s = M.run k t := by
  simp only [Host.Core.run, h]

/-- As many ticks as the countdown allows only count down. -/
theorem run_of_counting (k : Nat) (s : State) (h : k ≤ s.remaining) :
    Host.Core.run core k s = .next { s with remaining := s.remaining - k } := by
  induction k generalizing s with
  | zero => rfl
  | succ k ih =>
    have hpos : 0 < s.remaining := by omega
    have hk : k ≤ s.remaining - 1 := by omega
    have hsub : s.remaining - 1 - k = s.remaining - (k + 1) := by omega
    refine (run_succ_of_step (M := core) (step_of_counting hpos) k).trans ((ih _ hk).trans ?_)
    simp only [hsub]

/-- Settles O10, from the run of a countdown. -/
theorem ticksOfAnInstruction : Obligations.TicksOfAnInstruction := by
  intro s k h
  refine ⟨_, run_of_counting k s h, rfl, ?_⟩
  simp only [State.isExecuting, decide_eq_true_eq]
  omega

/-! ### Base cycles -/

/-- The table a tick reads, by opcode byte, gives every form the count of its mnemonic and mode (30_encoding.md R86, R87). -/
theorem defaultCycles_opcode (i : Instr) : Config.defaultCycles i.profile i.opcode = tableCycles i := by
  cases i
  case' m6502Lda m | m6502Adc m | m6502Sbc m | m6502And m | m6502Ora m | m6502Eor m | m6502Cmp m | m6502Ldx m |
      m6502Ldy m | m6502Sta m | m6502Stx m | m6502Sty m | m6502Cpx m | m6502Cpy m | m6502Bit m | m6502Inc m |
      m6502Dec m | m6502Asl m | m6502Lsr m | m6502Rol m | m6502Ror m | m6502Jmp m | m6800Ldaa m | m6800Ldab m |
      m6800Adda m | m6800Addb m | m6800Adca m | m6800Adcb m | m6800Suba m | m6800Subb m | m6800Sbca m | m6800Sbcb m |
      m6800Cmpa m | m6800Cmpb m | m6800Anda m | m6800Andb m | m6800Bita m | m6800Bitb m | m6800Eora m | m6800Eorb m |
      m6800Oraa m | m6800Orab m | m6800Lds m | m6800Ldx m | m6800Cpx m | m6800Staa m | m6800Stab m | m6800Sts m |
      m6800Stx m | m6800Neg m | m6800Com m | m6800Clr m | m6800Tst m | m6800Inc m | m6800Dec m | m6800Asl m |
      m6800Asr m | m6800Lsr m | m6800Rol m | m6800Ror m | m6800Jmp m | m6800Jsr m =>
    cases m
  all_goals -- every form has its opcode byte, whatever the operand
    dsimp only [Instr.opcode, encode, List.headD]
    rfl

/-- Every byte with an entry takes two ticks or more by the default table. -/
theorem two_le_defaultCycles_of_isDefined (p : Profile) (op : Byte) (h : isDefined p op = true) :
    2 ≤ Config.defaultCycles p op := by
  cases p
  · revert op; decide
  · revert op; decide

theorem two_le_defaultCycles (i : Instr) : 2 ≤ Config.defaultCycles i.profile i.opcode := by
  obtain ⟨sh, hl, -⟩ := lookup_opcode i
  exact two_le_defaultCycles_of_isDefined _ _ (by rw [isDefined, hl, Option.isSome_some])

/-- With no entry in P_CYCLES, the base cycles of an instruction of the engine's profile are those of the default table. -/
theorem cyclesOf_of_cycles_nil {i : Instr} {s : State} (hp : s.profile = i.profile) (hc : s.params.cycles = []) :
    s.cyclesOf i = Config.defaultCycles i.profile i.opcode := by
  rw [State.cyclesOf, Config.baseCycles, hc, hp, List.lookup_nil, Option.getD_none]

/-- Settles O11: `exec_eq_next` gives the countdown and the bounds on the extra ticks, and the two layouts of the default
table agree. -/
theorem cycleTotals : Obligations.CycleTotals := by
  refine ⟨fun i s t h => ?_, fun i s hp hc => (cyclesOf_of_cycles_nil hp hc).trans (defaultCycles_opcode i)⟩
  obtain ⟨hp, -, extra, hr, hle, h68⟩ := exec_eq_next h
  refine ⟨extra, hr, hle, fun h8 => h68 (hp ▸ h8), fun hc => ?_⟩
  have hbase := two_le_defaultCycles i
  rw [← cyclesOf_of_cycles_nil hp hc] at hbase
  omega

end Sys2Proof.Machine

/-!
# The stack (40_execution_cycle.md R110 to R114)

A pull undoes the push before it and sees through it to what was pushed earlier (`pulled65_push65`,
`pulled65_pull65_push65`); a word is two bytes.
-/

namespace Sys2Proof.Machine

/-! ### The M6502 stack -/

theorem eq_stackAddr65_iff {a : Word} {sp : Byte} : a = stackAddr65 sp ↔ a.toNat = 0x0100 + sp.toNat := by
  rw [← BitVec.toNat_inj, stackAddr65_toNat]

theorem pulled65_push65 (v : Byte) (s : State) : pulled65 (push65 v s) = v := by
  rw [pulled65, readByte_push65, push65_m6502, BitVec.sub_add_cancel, if_pos rfl]

/-- The byte under the one just pushed is the one a pull gave before the push. -/
theorem pulled65_pull65_push65 (v : Byte) (s : State) : pulled65 (pull65 (push65 v s)) = pulled65 s := by
  have hne : stackAddr65 (s.m6502.sp + 1) ≠ stackAddr65 s.m6502.sp := by
    rw [Ne, stackAddr65_inj]
    bv_omega
  simp only [pulled65, readByte_pull65, pull65_m6502, push65_m6502, BitVec.sub_add_cancel, readByte_push65, if_neg hne]

/-- What a pulled word leaves on the M6502: only SP moves. -/
theorem pull16At65_eq (s : State) :
    pull16At65 s = { s with m6502 := { s.m6502 with sp := s.m6502.sp + 2 } } := by
  have e : s.m6502.sp + 1 + 1 = s.m6502.sp + 2 := by rw [BitVec.add_assoc]; rfl
  rw [← e]
  rfl

theorem pulled16At65_push16At65 (w : Word) (s : State) : pulled16At65 (push16At65 w s) = w := by
  rw [pulled16At65, push16At65_params, push16At65]
  cases s.params.stackOrder <;> simp only [pulled65_push65, pulled65_pull65_push65, w16_hi_lo]

/-- A pushed word leaves memory changed, and once it is pulled nothing else. -/
theorem pull16At65_push16At65 (w : Word) (s : State) :
    pull16At65 (push16At65 w s) = { s with mem := (push16At65 w s).mem } := by
  have h := push16At65_eq w s
  generalize push16At65 w s = t at h
  rw [pull16At65_eq, h]
  simp only [BitVec.sub_add_cancel]

theorem wrote_pushedWord65 (w : Word) (s : State) :
    Wrote s (push16At65 w s) (pushedWord65 s.params.stackOrder s.m6502.sp w) := by
  have h := wrote_push16At65 (wrote_nil_of_mem (s := s) rfl) w
  rwa [List.append_nil] at h

/-! ### The M6800 stack -/

theorem pulled68_push68 (v : Byte) (s : State) : pulled68 (push68 v s) = v := by
  rw [pulled68, readByte_push68, push68_m6800, BitVec.sub_add_cancel, if_pos rfl]

/-- The byte above the one just pushed is the one a pull gave before the push. -/
theorem pulled68_pull68_push68 (v : Byte) (s : State) : pulled68 (pull68 (push68 v s)) = pulled68 s := by
  have hne : s.m6800.sp + 1 ≠ s.m6800.sp := by bv_omega
  simp only [pulled68, readByte_pull68, pull68_m6800, push68_m6800, BitVec.sub_add_cancel, readByte_push68, if_neg hne]

/-- What a pulled word leaves on the M6800: only SP moves. -/
theorem pull16At68_eq (s : State) :
    pull16At68 s = { s with m6800 := { s.m6800 with sp := s.m6800.sp + 2 } } := by
  have e : s.m6800.sp + 1 + 1 = s.m6800.sp + 2 := by rw [BitVec.add_assoc]; rfl
  rw [← e]
  rfl

/-- The word pulled on the M6800 stands high byte first above SP. -/
theorem pulled16At68_eq (s : State) :
    pulled16At68 s = w16 (s.readByte (s.m6800.sp + 1)) (s.readByte (s.m6800.sp + 2)) := by
  have e : s.m6800.sp + 1 + 1 = s.m6800.sp + 2 := by rw [BitVec.add_assoc]; rfl
  rw [← e]
  rfl

theorem pulled16At68_push16At68 (w : Word) (s : State) : pulled16At68 (push16At68 w s) = w := by
  rw [pulled16At68, push16At68, pulled68_push68, pulled68_pull68_push68, pulled68_push68, w16_hi_lo]

/-- A pushed word leaves memory changed, and once it is pulled nothing else. -/
theorem pull16At68_push16At68 (w : Word) (s : State) :
    pull16At68 (push16At68 w s) = { s with mem := (push16At68 w s).mem } := by
  have h := push16At68_eq w s
  generalize push16At68 w s = t at h
  rw [pull16At68_eq, h]
  simp only [BitVec.sub_add_cancel]

theorem wrote_pushedWord68 (w : Word) (s : State) :
    Wrote s (push16At68 w s) [(s.m6800.sp - 1, hi w), (s.m6800.sp, lo w)] := wrote_push16At68 (wrote_nil_of_mem rfl) w

/-! ### The statements -/

/-- Settles O22: on either profile the pull undoes the push, whose bytes stay. -/
theorem stackRoundTrip : Obligations.StackRoundTrip := by
  constructor
  · intro w s
    exact ⟨pulled16At65_push16At65 w s, pull16At65_push16At65 w s, wrote_congr (wrote_pushedWord65 w s) rfl⟩
  · intro w s
    exact ⟨pulled16At68_push16At68 w s, pull16At68_push16At68 w s, wrote_congr (wrote_pushedWord68 w s) rfl⟩

/-- Settles O20: the model's stack addresses and pointers are those numbers. -/
theorem stackPrimitives : Obligations.StackPrimitives := by
  constructor
  · intro v s
    have hpush : s.m6502.sp - 1 = BitVec.ofNat 8 (s.m6502.sp.toNat + 255) := by bv_omega
    have hpull : s.m6502.sp + 1 = BitVec.ofNat 8 (s.m6502.sp.toNat + 1) := by bv_omega
    have haddr : stackAddr65 (s.m6502.sp + 1) = BitVec.ofNat 16 (0x0100 + (s.m6502.sp.toNat + 1) % 256) := by
      apply BitVec.eq_of_toNat_eq
      rw [hpull, stackAddr65_toNat, BitVec.toNat_ofNat, BitVec.toNat_ofNat]
      omega
    refine ⟨fun a => ?_, ?_, ?_, ?_⟩
    · simp only [readByte_push65, eq_stackAddr65_iff]
    · rw [← hpush]
      rfl
    · rw [← hpull]
      rfl
    · rw [← haddr]
      rfl
  · intro v s
    have hpush : s.m6800.sp - 1 = BitVec.ofNat 16 (s.m6800.sp.toNat + 65535) := by bv_omega
    have hpull : s.m6800.sp + 1 = BitVec.ofNat 16 (s.m6800.sp.toNat + 1) := by bv_omega
    refine ⟨readByte_push68 v s, ?_, ?_, ?_⟩
    · rw [← hpush]
      rfl
    all_goals
      rw [← hpull]
      rfl

/-- Settles O21: a pushed or pulled word in the vocabulary of writes, with SP moved by two. -/
theorem stackWords : Obligations.StackWords := by
  constructor
  · intro w s
    exact ⟨wrote_pushedWord65 w s, push16At65_eq w s, pulled16At65_eq s, pull16At65_eq s⟩
  · intro w s
    exact ⟨wrote_pushedWord68 w s, push16At68_eq w s, pulled16At68_eq s, pull16At68_eq s⟩

/-- Settles O50: PSHA and PSHB are a push of the accumulator, PULA and PULB a pull into it. -/
theorem stack6800 : Obligations.Stack6800 := by
  intro s hp
  refine ⟨?psha, ?pshb, ?pula, ?pulb⟩
  case psha =>
    exact runs68_of_run0 (show execM6800Psha s = _ from rfl) hp (wrote_push68 (wrote_nil_of_mem rfl) _) rfl
  case pshb =>
    exact runs68_of_run0 (show execM6800Pshb s = _ from rfl) hp (wrote_push68 (wrote_nil_of_mem rfl) _) rfl
  case pula => exact runs68_of_run0 (show execM6800Pula s = _ from rfl) hp (wrote_nil_of_mem rfl) rfl
  case pulb => exact runs68_of_run0 (show execM6800Pulb s = _ from rfl) hp (wrote_nil_of_mem rfl) rfl

end Sys2Proof.Machine

/-!
# Addressing modes (41_addressing_modes.md)

The addresses, penalties and operands of Operands.lean in numbers, and the M6800 stores, which write at those addresses.
-/

namespace Sys2Proof.Machine

/-! ### Words in numbers -/

theorem eq_ofNat_of_toNat_eq {w n : Nat} {x : BitVec w} (h : x.toNat = n) : x = BitVec.ofNat w n := by
  rw [← h, BitVec.ofNat_toNat, BitVec.setWidth_eq]

/-- Indexing in page 0 stays in page 0 (R135). -/
theorem zext16_add_toNat (a b : Byte) : (zext16 (a + b)).toNat = (a.toNat + b.toNat) % 256 := by
  rw [zext16_toNat, BitVec.toNat_add]

/-- Indexing from a word wraps at 65536 (R136, R149). -/
theorem add_zext16_toNat (w : Word) (b : Byte) : (w + zext16 b).toNat = (w.toNat + b.toNat) % 65536 := by
  rw [BitVec.toNat_add, zext16_toNat]

theorem hi_eq_ofNat (w : Word) : hi w = BitVec.ofNat 8 (w.toNat / 256) := eq_ofNat_of_toNat_eq (hi_toNat w)

theorem lo_eq_ofNat (w : Word) : lo w = BitVec.ofNat 8 w.toNat := by
  apply BitVec.eq_of_toNat_eq
  rw [lo_toNat, BitVec.toNat_ofNat]

theorem word_msb (w : Word) : w.msb = decide (32768 ≤ w.toNat) := by
  rw [BitVec.msb_eq_decide]

theorem word_eq_zero (w : Word) : (w = 0) = (w.toNat = 0) := by
  rw [← BitVec.toNat_inj]
  rfl

/-! ### M6502 -/

/-- The next byte within a page: the carry out of the low byte is lost (R137, R140). -/
theorem add_one_toNat_of_mod {p : Byte} {q : Nat} (h : p.toNat = q % 256) : (p + 1).toNat = (q + 1) % 256 := by
  rw [BitVec.toNat_add, h]
  exact Nat.mod_add_mod q 256 1

/-- Both bytes of a zero-page pointer are in page 0 (R137); `q` is the pointer's number before it wraps. -/
theorem zpPointer_toNat (s : State) {p : Byte} {q : Nat} (h : p.toNat = q % 256) :
    (zpPointer s p).toNat = (s.readByte (BitVec.ofNat 16 ((q + 1) % 256))).toNat * 256 +
      (s.readByte (BitVec.ofNat 16 (q % 256))).toNat := by
  have hlow : zext16 p = BitVec.ofNat 16 (q % 256) := eq_ofNat_of_toNat_eq ((zext16_toNat p).trans h)
  have hhigh : zext16 (p + 1) = BitVec.ofNat 16 ((q + 1) % 256) :=
    eq_ofNat_of_toNat_eq ((zext16_toNat _).trans (add_one_toNat_of_mod h))
  rw [zpPointer, w16_toNat, hlow, hhigh]

/-- The high byte of an indirect jump's target is read in the page of the pointer (R140). -/
theorem indirectTarget_toNat (s : State) (w : Word) :
    (indirectTarget s w).toNat =
      (s.readByte (BitVec.ofNat 16 (w.toNat / 256 * 256 + (w.toNat + 1) % 256))).toNat * 256 +
        (s.readByte (BitVec.ofNat 16 w.toNat)).toNat := by
  have hhigh : w16 (hi w) (lo w + 1) = BitVec.ofNat 16 (w.toNat / 256 * 256 + (w.toNat + 1) % 256) := by
    apply eq_ofNat_of_toNat_eq
    rw [w16_toNat, hi_toNat, add_one_toNat_of_mod (lo_toNat w)]
  rw [indirectTarget, w16_toNat, hhigh, ← eq_ofNat_of_toNat_eq (rfl : w.toNat = _)]

/-- The penalty of an indexed read, from the low byte of the base (R136, R141). -/
theorem bit_crosses (base : Word) (idx : Byte) :
    bit (crosses base idx) = if 255 < base.toNat % 256 + idx.toNat then 1 else 0 := by
  simp only [bit, crosses, lo_toNat, gt_iff_lt, decide_eq_true_eq]

/-- Settles O26: each address and penalty is its number; INY adds Y to its zero-page pointer as ABY does to a word. -/
theorem addresses6502 : Obligations.Addresses6502 := by
  intro s x y at8 pointer
  have hpointer (p : Byte) : (zpPointer s p).toNat = pointer p.toNat :=
    zpPointer_toNat s (Nat.mod_eq_of_lt p.isLt).symm
  refine ⟨zext16_toNat, (zext16_add_toNat · _), (zext16_add_toNat · _), fun _ => rfl, (add_zext16_toNat · _),
    (add_zext16_toNat · _), fun _ => zpPointer_toNat s (BitVec.toNat_add ..), fun p => ?iny, indirectTarget_toNat s,
    (bit_crosses · _), (bit_crosses · _), fun p => ?inyPenalty, fun _ => ⟨rfl, rfl, rfl, rfl⟩, fun _ => rfl,
    fun _ => ⟨rfl, rfl⟩, fun _ => ⟨rfl, rfl⟩⟩
  case iny => rw [← hpointer, Ea65.addr, add_zext16_toNat]
  case inyPenalty => rw [← hpointer, Ea65.penalty, bit_crosses]

/-! ### M6800 -/

/-- The low byte of a word operand is at the next address of the whole space (R143). -/
theorem readHighFirst_toNat (s : State) (a : Word) :
    (s.readHighFirst a).toNat = (s.readByte a).toNat * 256 + (s.readByte (BitVec.ofNat 16 (a.toNat + 1))).toNat := by
  have hnext : a + 1 = BitVec.ofNat 16 (a.toNat + 1) := by bv_omega
  rw [State.readHighFirst, w16_toNat, hnext]

/-- Settles O27: direct mode extends the byte, indexed mode adds it to IX, and a word operand is read high byte first. -/
theorem addresses6800 : Obligations.Addresses6800 := fun s =>
  ⟨zext16_toNat, add_zext16_toNat _, fun _ => rfl, fun _ => rfl, fun _ => rfl, fun _ => rfl,
    fun _ => readHighFirst_toNat s _⟩

/-! ### M6800 stores -/

/-- The flags of a byte moved, in numbers (42_alu.md R176). -/
theorem nzv0_eq (v : Byte) (r : Regs68) :
    nzv0 v r = { r with n := negativeOf v.toNat, z := zeroOf v.toNat, v := false } := by
  rw [nzv0, negativeOf_toNat, zeroOf_toNat]

/-- The flags of a word moved, in numbers (42_alu.md R176). -/
theorem nzv0Word_eq (w : Word) (r : Regs68) :
    nzv0Word w r = { r with n := decide (32768 ≤ w.toNat), z := decide (w.toNat = 0), v := false } := by
  simp only [nzv0Word, word_msb, word_eq_zero]

/-- `store68W_plain` in numbers (46_m6800_load_store_transfer.md R306, R307). -/
theorem store68W_plain_ofNat {i : Instr} {s : State} {ea : Ea68} {value : Regs68 → Word}
    (he : exec i s = store68W i ea value s) (hp : s.profile = i.profile) :
    Plain68 i s
      { s.m6800 with
        n := decide (32768 ≤ (value s.m6800).toNat), z := decide ((value s.m6800).toNat = 0), v := false }
      [(ea.addr s + 1, BitVec.ofNat 8 (value s.m6800).toNat), (ea.addr s, BitVec.ofNat 8 ((value s.m6800).toNat / 256))] := by
  rw [← lo_eq_ofNat, ← hi_eq_ofNat]
  exact store68W_plain he hp (nzv0Word_eq _ _)

/-- Settles O48: STAA and STAB are a byte store, STS and STX a word store. -/
theorem stores6800 : Obligations.Stores6800 := by
  intro s hp
  refine ⟨fun m => ?staa, fun m => ?stab, fun m => ?sts, fun m => ?stx⟩
  case staa => exact store68_plain (show execM6800Staa m s = _ from rfl) hp (nzv0_eq _ _)
  case stab => exact store68_plain (show execM6800Stab m s = _ from rfl) hp (nzv0_eq _ _)
  case sts => exact store68W_plain_ofNat (show execM6800Sts m s = _ from rfl) hp
  case stx => exact store68W_plain_ofNat (show execM6800Stx m s = _ from rfl) hp

end Sys2Proof.Machine

/-!
# The ALU of the M6502 in numbers (42_alu.md R160 to R170)
-/

namespace Sys2Proof.Machine

/-! ### Results in numbers -/

/-- A difference of bytes, kept in the natural numbers. -/
theorem byte_sub_eq_ofNat (x y : Byte) : x - y = BitVec.ofNat 8 (x.toNat + 256 - y.toNat) := by
  bv_omega

theorem byte_add_one_eq_ofNat (x : Byte) : x + 1 = BitVec.ofNat 8 (x.toNat + 1) := by
  bv_omega

theorem byte_sub_one_eq_ofNat (x : Byte) : x - 1 = BitVec.ofNat 8 (x.toNat + 255) := by
  bv_omega

/-- Bit 7 of a byte is its sign bit. -/
theorem byte_getLsbD_seven (x : Byte) : x.getLsbD 7 = negativeOf x.toNat := by
  rw [negativeOf_toNat]
  rfl

theorem byte_getLsbD_six (x : Byte) : x.getLsbD 6 = decide (64 ≤ x.toNat % 128) := by
  revert x
  decide

theorem byte_getLsbD_zero (x : Byte) : x.getLsbD 0 = decide (x.toNat % 2 = 1) := by
  rw [BitVec.getLsbD, Nat.testBit_zero]

/-! ### Shifts and rotates, for both profiles -/

theorem aslOut_eq (x : Byte) : aslOut x = (BitVec.ofNat 8 (2 * x.toNat), decide (128 ≤ x.toNat)) := by
  have h : x <<< 1 = BitVec.ofNat 8 (2 * x.toNat) := by bv_omega
  rw [aslOut, h, byte_msb]

theorem lsrOut_eq (x : Byte) : lsrOut x = (BitVec.ofNat 8 (x.toNat / 2), decide (x.toNat % 2 = 1)) := by
  have h : x >>> 1 = BitVec.ofNat 8 (x.toNat / 2) := by bv_omega
  rw [lsrOut, h, byte_getLsbD_zero]

theorem rolOut_eq (c : Bool) (x : Byte) :
    rolOut c x = (BitVec.ofNat 8 (2 * x.toNat + bit c), decide (128 ≤ x.toNat)) := by
  revert c x
  decide

theorem rorOut_eq (c : Bool) (x : Byte) :
    rorOut c x = (BitVec.ofNat 8 (x.toNat / 2 + 128 * bit c), decide (x.toNat % 2 = 1)) := by
  revert c x
  decide

theorem asrOut_eq (x : Byte) :
    asrOut x = (BitVec.ofNat 8 (x.toNat / 2 + x.toNat / 128 * 128), decide (x.toNat % 2 = 1)) := by
  revert x
  decide

/-! ### The register file of the M6502 -/

theorem zn65_eq (v : Byte) (r : Regs65) : zn65 v r = { r with z := zeroOf v.toNat, n := negativeOf v.toNat } := by
  rw [zn65, zeroOf_toNat, negativeOf_toNat]

/-- `zn65_eq` of a byte computed as a number. -/
theorem zn65_ofNat (n : Nat) (r : Regs65) : zn65 (BitVec.ofNat 8 n) r = { r with z := zeroOf n, n := negativeOf n } := by
  rw [zn65, zeroOf_eq, negativeOf_eq]

theorem inc65_eq (x : Byte) (r : Regs65) :
    inc65 x r = (BitVec.ofNat 8 (x.toNat + 1), { r with z := zeroOf (x.toNat + 1), n := negativeOf (x.toNat + 1) }) := by
  rw [inc65, byte_add_one_eq_ofNat, zn65_ofNat]

theorem dec65_eq (x : Byte) (r : Regs65) :
    dec65 x r =
      (BitVec.ofNat 8 (x.toNat + 255), { r with z := zeroOf (x.toNat + 255), n := negativeOf (x.toNat + 255) }) := by
  rw [dec65, byte_sub_one_eq_ofNat, zn65_ofNat]

/-- A comparison (42_alu.md R164). -/
theorem cmp65_eq (reg v : Byte) (r : Regs65) :
    cmp65 reg v r =
      { r with
        c := decide (v.toNat ≤ reg.toNat), z := decide (reg = v), n := negativeOf (reg.toNat + 256 - v.toNat) } := by
  rw [cmp65, byte_sub_eq_ofNat, ← negativeOf_eq]

/-- BIT (42_alu.md R167): N and V are bits 7 and 6 of the operand. -/
theorem bit65_eq (v : Byte) (r : Regs65) :
    bit65 v r =
      { r with z := zeroOf (r.a &&& v).toNat, n := negativeOf v.toNat, v := decide (64 ≤ v.toNat % 128) } := by
  rw [bit65, byte_getLsbD_seven, byte_getLsbD_six, zeroOf_toNat]

/-- A shift or rotate whose result and carry are numbers (42_alu.md R168). -/
theorem shift65_eq (n : Nat) (c : Bool) (r : Regs65) :
    shift65 (BitVec.ofNat 8 n, c) r = (BitVec.ofNat 8 n, { r with c := c, z := zeroOf n, n := negativeOf n }) := by
  rw [shift65, zn65_ofNat]

/-- Where D = 0 or P_DECIMAL_6502 is binary, ADC is binary (42_alu.md R161). -/
theorem adc65_of_binary {mode : Config.Decimal} {r : Regs65} (h : r.d = false ∨ mode = .binary) (v : Byte) :
    adc65 mode v r = adcBinary v r := by
  obtain hd | rfl := h
  · cases mode <;> simp only [adc65, hd]
  · rfl

theorem adc65_of_decimal {r : Regs65} (hd : r.d = true) (v : Byte) : adc65 .nmos v r = adcDecimal v r := by
  simp only [adc65, hd]

/-- Where D = 0 or P_DECIMAL_6502 is binary, SBC is binary (42_alu.md R162, R163). -/
theorem sbc65_of_binary {mode : Config.Decimal} {r : Regs65} (h : r.d = false ∨ mode = .binary) (v : Byte) :
    sbc65 mode v r = sbcBinary v r := by
  obtain hd | rfl := h
  · cases mode <;> simp only [sbc65, hd]
  · rfl

theorem sbc65_of_decimal {r : Regs65} (hd : r.d = true) (v : Byte) :
    sbc65 .nmos v r = { sbcBinary v r with a := sbcDecimalResult r.a v r.c } := by
  simp only [sbc65, hd]

/-- The high nibble of a byte as a signed number (42_alu.md R161). -/
theorem sgn8_highNibble (x : Byte) : sgn8 (highNibble x) = (x &&& 0xF0#8).toInt := by
  revert x
  decide

/-- A read-modify-write instruction whose operand is in memory. -/
theorem rmw65_plain_of_mem {i : Instr} {s : State} {dst : Dst65} {ea : Ea65} {f : Byte → Regs65 → Byte × Regs65}
    {r : Regs65} {v : Byte} (he : exec i s = rmw65 i dst f s) (hdst : dst = .mem ea) (hp : s.profile = i.profile)
    (hr : f (s.readByte (ea.addr s)) s.m6502 = (v, r)) : Plain65 i s r [(ea.addr s, v)] 0 := by
  subst hdst
  exact rmw65_mem_plain he hp hr

/-! ### The statements -/

/-- Settles O35: each transfer is an update of the register file, with Z and N as `zn65` gives them. -/
theorem transfers6502 : Obligations.Transfers6502 := by
  intro s hp
  refine ⟨?tax, ?tay, ?txa, ?tya, ?tsx, ?txs⟩
  case tax => exact regs65_plain (show execM6502Tax s = _ from rfl) hp (by rw [zn65_eq])
  case tay => exact regs65_plain (show execM6502Tay s = _ from rfl) hp (by rw [zn65_eq])
  case txa => exact regs65_plain (show execM6502Txa s = _ from rfl) hp (by rw [zn65_eq])
  case tya => exact regs65_plain (show execM6502Tya s = _ from rfl) hp (by rw [zn65_eq])
  case tsx => exact regs65_plain (show execM6502Tsx s = _ from rfl) hp (by rw [zn65_eq])
  case txs => exact regs65_plain (show execM6502Txs s = _ from rfl) hp rfl

/-- Settles O36: both clauses are ADC's one read, with `adcBinary` or `adcDecimal` on the register file. -/
theorem adc6502 : Obligations.Adc6502 := by
  intro s hp r m
  have he : exec (.m6502Adc m) s = execM6502Adc m s := rfl
  refine ⟨fun h => ?binary, fun hd hm => ?decimal⟩
  case binary => exact read65_plain he hp ((adc65_of_binary h _).trans (adcBinary_eq _ _))
  case decimal =>
    refine read65_plain he hp ?_
    rw [hm, adc65_of_decimal hd, adcDecimal]
    simp only [sgn8_highNibble, ofInt_msb]
    rfl

/-- Settles O37: the flags are those of the binary difference in both clauses. -/
theorem sbc6502 : Obligations.Sbc6502 := by
  intro s hp r m
  have he : exec (.m6502Sbc m) s = execM6502Sbc m s := rfl
  refine ⟨fun h => ?binary, fun hd hm => ?decimal⟩
  case binary => exact read65_plain he hp ((sbc65_of_binary h _).trans (sbcBinary_eq _ _))
  case decimal =>
    refine read65_plain he hp ?_
    rw [hm, sbc65_of_decimal hd, sbcBinary_eq]
    rfl

/-- Settles O38: AND, ORA and EOR put a byte into A by `zn65`, BIT writes flags alone. -/
theorem logic6502 : Obligations.Logic6502 := by
  intro s hp
  refine ⟨fun m => ?and, fun m => ?ora, fun m => ?eor, fun m => ?bit⟩
  case and => exact read65_plain (show execM6502And m s = _ from rfl) hp (by rw [zn65_eq])
  case ora => exact read65_plain (show execM6502Ora m s = _ from rfl) hp (by rw [zn65_eq])
  case eor => exact read65_plain (show execM6502Eor m s = _ from rfl) hp (by rw [zn65_eq])
  case bit => exact read65_plain (show execM6502Bit m s = _ from rfl) hp (bit65_eq _ _)

/-- Settles O39: the three compares are `cmp65` of their register. -/
theorem compares6502 : Obligations.Compares6502 := by
  intro s hp
  refine ⟨fun m => ?cmp, fun m => ?cpx, fun m => ?cpy⟩
  case cmp => exact read65_plain (show execM6502Cmp m s = _ from rfl) hp (cmp65_eq _ _ _)
  case cpx => exact read65_plain (show execM6502Cpx m s = _ from rfl) hp (cmp65_eq _ _ _)
  case cpy => exact read65_plain (show execM6502Cpy m s = _ from rfl) hp (cmp65_eq _ _ _)

/-- Settles O40: INC and DEC are read-modify-writes of memory, the others the same primitives on X or Y. -/
theorem incDec6502 : Obligations.IncDec6502 := by
  intro s hp
  refine ⟨fun m => ?address, fun m ea h => ?inc, fun m ea h => ?dec, ?inx, ?iny, ?dex, ?dey⟩
  case address => cases m <;> exact ⟨_, rfl⟩
  case inc => exact rmw65_plain_of_mem (show execM6502Inc m s = _ from rfl) h hp (inc65_eq _ _)
  case dec => exact rmw65_plain_of_mem (show execM6502Dec m s = _ from rfl) h hp (dec65_eq _ _)
  case inx => exact regs65_plain (show execM6502Inx s = _ from rfl) hp (by rw [inc65_eq])
  case iny => exact regs65_plain (show execM6502Iny s = _ from rfl) hp (by rw [inc65_eq])
  case dex => exact regs65_plain (show execM6502Dex s = _ from rfl) hp (by rw [dec65_eq])
  case dey => exact regs65_plain (show execM6502Dey s = _ from rfl) hp (by rw [dec65_eq])

/-- Settles O41, from each shift's result and carry in numbers. -/
theorem shifts6502 : Obligations.Shifts6502 := by
  intro s m hp
  refine ⟨?asl, ?lsr, ?rol, ?ror⟩
  case asl =>
    exact shift65_of_rmw65 (show execM6502Asl m s = _ from rfl) hp fun x r => by rw [asl65, aslOut_eq, shift65_eq]
  case lsr =>
    exact shift65_of_rmw65 (show execM6502Lsr m s = _ from rfl) hp fun x r => by rw [lsr65, lsrOut_eq, shift65_eq]
  case rol =>
    exact shift65_of_rmw65 (show execM6502Rol m s = _ from rfl) hp fun x r => by rw [rol65, rolOut_eq, shift65_eq]
  case ror =>
    exact shift65_of_rmw65 (show execM6502Ror m s = _ from rfl) hp fun x r => by rw [ror65, rorOut_eq, shift65_eq]

/-- Settles O46: each flag instruction is its own update of the register file, and NOP none. -/
theorem flagInstructions6502 : Obligations.FlagInstructions6502 := by
  intro s hp
  refine ⟨?clc, ?sec, ?cli, ?sei, ?cld, ?sed, ?clv, ?nop⟩
  case clc => exact regs65_plain (show execM6502Clc s = _ from rfl) hp rfl
  case sec => exact regs65_plain (show execM6502Sec s = _ from rfl) hp rfl
  case cli => exact regs65_plain (show execM6502Cli s = _ from rfl) hp rfl
  case sei => exact regs65_plain (show execM6502Sei s = _ from rfl) hp rfl
  case cld => exact regs65_plain (show execM6502Cld s = _ from rfl) hp rfl
  case sed => exact regs65_plain (show execM6502Sed s = _ from rfl) hp rfl
  case clv => exact regs65_plain (show execM6502Clv s = _ from rfl) hp rfl
  case nop => exact runs65_of_run (show execM6502Nop s = _ from rfl) hp (wrote_nil_of_mem rfl) rfl

end Sys2Proof.Machine

/-!
# The ALU of the M6800 in numbers (42_alu.md R165 to R177)
-/

namespace Sys2Proof.Machine

/-! ### Words -/

theorem word_add_one_eq_ofNat (w : Word) : w + 1 = BitVec.ofNat 16 (w.toNat + 1) := by
  bv_omega

theorem word_sub_one_eq_ofNat (w : Word) : w - 1 = BitVec.ofNat 16 (w.toNat + 65535) := by
  bv_omega

theorem word_add_one_eq_zero (w : Word) : (w + 1 = 0) = (w.toNat = 65535) := by
  rw [eq_iff_iff]
  bv_omega

theorem word_sub_one_eq_zero (w : Word) : (w - 1 = 0) = (w.toNat = 1) := by
  rw [eq_iff_iff]
  bv_omega

/-! ### The register file of the M6800 -/

/-- An addition to an accumulator (42_alu.md R165). -/
theorem addAcc_eq (acc : Acc) (v : Byte) (cin : Bool) (r : Regs68) :
    addAcc acc v cin r =
      acc.set (BitVec.ofNat 8 ((acc.get r).toNat + v.toNat + bit cin))
        { r with
          h := decide (16 ≤ (acc.get r).toNat % 16 + v.toNat % 16 + bit cin)
          n := negativeOf ((acc.get r).toNat + v.toNat + bit cin), z := zeroOf ((acc.get r).toNat + v.toNat + bit cin)
          v := overflows ((acc.get r).toInt + v.toInt + bit cin)
          c := decide (256 ≤ (acc.get r).toNat + v.toNat + bit cin) } := by
  rw [addAcc, addFlags68_eq]
  rfl

/-- A subtraction from an accumulator (42_alu.md R171). -/
theorem subAcc_eq (acc : Acc) (v : Byte) (bin : Bool) (r : Regs68) :
    subAcc acc v bin r =
      acc.set (BitVec.ofInt 8 (((acc.get r).toNat : Int) - v.toNat - bit bin))
        { r with
          n := decide (128 ≤ (((acc.get r).toNat : Int) - v.toNat - bit bin) % 256)
          z := decide ((((acc.get r).toNat : Int) - v.toNat - bit bin) % 256 = 0)
          v := overflows ((acc.get r).toInt - v.toInt - bit bin)
          c := decide ((acc.get r).toNat < v.toNat + bit bin) } := by
  rw [subAcc, subFlags68_eq]
  rfl

theorem logicAcc_eq (acc : Acc) (v : Byte) (r : Regs68) :
    logicAcc acc v r = acc.set v { r with n := negativeOf v.toNat, z := zeroOf v.toNat, v := false } := by
  rw [logicAcc, nzv0_eq]

/-- The overflow rule of CPX is that of a subtraction of bytes (42_alu.md R171, R175). -/
theorem sub_overflow (x y : Byte) :
    ((x.msb && !y.msb && !(x - y).msb) || (!x.msb && y.msb && (x - y).msb)) = overflows (x.toInt - y.toInt) := by
  have hv := sub8_v x y false
  have hr : BitVec.ofInt 8 ((x.toNat : Int) - y.toNat - bit false) = x - y := by
    apply BitVec.eq_of_toNat_eq
    rw [BitVec.toNat_ofInt, BitVec.toNat_sub, show bit false = 0 from rfl]
    omega
  rw [show x.toInt - y.toInt - bit false = x.toInt - y.toInt from Int.sub_zero _] at hv
  rw [← hv, ← hr]
  rfl

/-- CPX (42_alu.md R175): Z of all 16 bits, N and V of the high bytes. -/
theorem cpx68_eq (w : Word) (r : Regs68) :
    cpx68 w r =
      { r with
        z := decide (r.ix = w), n := negativeOf (r.ix.toNat / 256 + 256 - w.toNat / 256)
        v := overflows ((hi r.ix).toInt - (hi w).toInt) } := by
  have hz : (r.ix - w = 0) = (r.ix = w) := propext sub_eq_zero
  have hn : (hi r.ix - hi w).msb = negativeOf (r.ix.toNat / 256 + 256 - w.toNat / 256) := by
    rw [byte_sub_eq_ofNat, ← negativeOf_eq, hi_toNat, hi_toNat]
  simp only [cpx68, hz, sub_overflow]
  rw [hn]

/-- The correction of DAA (42_alu.md R174). -/
theorem daaCorrection_eq (a : Byte) (h c : Bool) :
    daaCorrection a h c =
      (if h = true ∨ 9 < a.toNat % 16 then 6 else 0) +
        (if c = true ∨ 9 < a.toNat / 16 ∨ (8 < a.toNat / 16 ∧ 9 < a.toNat % 16) then 96 else 0) := by
  simp only [daaCorrection, Bool.or_eq_true, Bool.and_eq_true, decide_eq_true_eq, or_assoc]

theorem daa68_eq (draw : Bool) (r : Regs68) :
    daa68 draw r =
      { r with
        a := BitVec.ofNat 8 (r.a.toNat + daaCorrection r.a r.h r.c)
        c := r.c || decide (256 ≤ r.a.toNat + daaCorrection r.a r.h r.c)
        n := negativeOf (r.a.toNat + daaCorrection r.a r.h r.c)
        z := zeroOf (r.a.toNat + daaCorrection r.a r.h r.c), v := draw } := by
  rw [daa68, negativeOf_eq, zeroOf_eq]

/-! ### The single-operand group -/

/-- A shift or rotate whose result and carry are numbers (42_alu.md R169). -/
theorem shift68_eq (n : Nat) (c : Bool) (r : Regs68) :
    shift68 (BitVec.ofNat 8 n, c) r =
      (BitVec.ofNat 8 n, { r with n := negativeOf n, z := zeroOf n, v := negativeOf n ^^ c, c := c }) := by
  rw [shift68, negativeOf_eq, zeroOf_eq]

theorem neg68_eq (x : Byte) (r : Regs68) :
    neg68 x r =
      (BitVec.ofNat 8 (256 - x.toNat),
        { r with
          n := negativeOf (256 - x.toNat), z := decide (x.toNat = 0), v := decide (x.toNat = 128)
          c := decide (x.toNat ≠ 0) }) := by
  have hr : 0 - x = BitVec.ofNat 8 (256 - x.toNat) := by bv_omega
  have hz : (0 - x = 0) = (x.toNat = 0) := by rw [eq_iff_iff]; bv_omega
  have hv : (0 - x = 0x80) = (x.toNat = 128) := by rw [eq_iff_iff]; bv_omega
  simp only [neg68, ne_eq, hz, hv]
  rw [hr, ← negativeOf_eq]

theorem com68_eq (x : Byte) (r : Regs68) :
    com68 x r =
      (BitVec.ofNat 8 (255 - x.toNat),
        { r with n := decide (x.toNat < 128), z := decide (x.toNat = 255), v := false, c := true }) := by
  have hr : x ^^^ 0xFF#8 = BitVec.ofNat 8 (255 - x.toNat) := by revert x; decide
  have hn : (x ^^^ 0xFF#8).msb = decide (x.toNat < 128) := by revert x; decide
  have hz : (x ^^^ 0xFF#8 = 0) = (x.toNat = 255) := by rw [hr, eq_iff_iff]; bv_omega
  simp only [com68, hn, hz]
  rw [hr]

theorem inc68_eq (x : Byte) (r : Regs68) :
    inc68 x r =
      (BitVec.ofNat 8 (x.toNat + 1),
        { r with n := negativeOf (x.toNat + 1), z := zeroOf (x.toNat + 1), v := decide (x.toNat = 127) }) := by
  have hv : (x = 0x7F) = (x.toNat = 127) := by rw [eq_iff_iff]; bv_omega
  simp only [inc68, byte_add_one_eq_ofNat, negativeOf_eq, zeroOf_eq, hv]

theorem dec68_eq (x : Byte) (r : Regs68) :
    dec68 x r =
      (BitVec.ofNat 8 (x.toNat + 255),
        { r with n := negativeOf (x.toNat + 255), z := zeroOf (x.toNat + 255), v := decide (x.toNat = 128) }) := by
  have hv : (x = 0x80) = (x.toNat = 128) := by rw [eq_iff_iff]; bv_omega
  simp only [dec68, byte_sub_one_eq_ofNat, negativeOf_eq, zeroOf_eq, hv]

theorem tst68_eq (x : Byte) (r : Regs68) :
    tst68 x r = { r with n := negativeOf x.toNat, z := zeroOf x.toNat, v := false, c := false } := by
  rw [tst68, negativeOf_toNat, zeroOf_toNat]

/-- A mnemonic whose three spellings are a shift or rotate of the M6800. -/
theorem shift68_of_rmw68 {onA onB : Instr} {onMem : Mode68.Mem → Instr} {p : Byte → Regs68 → Byte × Regs68}
    {out : Bool → Byte → Byte × Bool} {f : Nat → Nat → Nat} {carry : Nat → Bool}
    (ha : ∀ s, exec onA s = rmw68 onA .accA p s) (hb : ∀ s, exec onB s = rmw68 onB .accB p s)
    (hm : ∀ m s, exec (onMem m) s = rmw68 (onMem m) (.mem (eaOfMem m)) p s) (pa : onA.profile = .m6800)
    (pb : onB.profile = .m6800) (pm : ∀ m, (onMem m).profile = .m6800) (hp : ∀ x r, p x r = shift68 (out r.c x) r)
    (hout : ∀ c x, out c x = (BitVec.ofNat 8 (f x.toNat (bit c)), carry x.toNat)) : Shift68 onA onB onMem f carry :=
  singleOperand_of_rmw68 ha hb hm pa pb pm fun x r => by rw [hp, hout, shift68_eq]

/-! ### The statements -/

/-- Settles O47: each load is one read, with N, Z and V as `nzv0` or `nzv0Word` gives them. -/
theorem loads6800 : Obligations.Loads6800 := by
  intro s hp
  refine ⟨fun m => ?ldaa, fun m => ?ldab, fun m => ?lds, fun m => ?ldx⟩
  case ldaa => exact read68_plain (show execM6800Ldaa m s = _ from rfl) hp (by rw [nzv0_eq])
  case ldab => exact read68_plain (show execM6800Ldab m s = _ from rfl) hp (by rw [nzv0_eq])
  case lds => exact read68W_plain (show execM6800Lds m s = _ from rfl) hp (by rw [nzv0Word_eq])
  case ldx => exact read68W_plain (show execM6800Ldx m s = _ from rfl) hp (by rw [nzv0Word_eq])

/-- Settles O49: each is an update of the register file, whose words wrap as numbers modulo 65536. -/
theorem transfers6800 : Obligations.Transfers6800 := by
  intro s hp
  refine ⟨?tab, ?tba, ?tap, ?tpa, ?tsx, ?txs, ?inx, ?dex, ?ins, ?des⟩
  case tab => exact regs68_plain (show execM6800Tab s = _ from rfl) hp (by rw [nzv0_eq])
  case tba => exact regs68_plain (show execM6800Tba s = _ from rfl) hp (by rw [nzv0_eq])
  case tap => exact regs68_plain (show execM6800Tap s = _ from rfl) hp rfl
  case tpa => exact regs68_plain (show execM6800Tpa s = _ from rfl) hp rfl
  case tsx => exact regs68_plain (show execM6800Tsx s = _ from rfl) hp (by rw [word_add_one_eq_ofNat])
  case txs => exact regs68_plain (show execM6800Txs s = _ from rfl) hp (by rw [word_sub_one_eq_ofNat])
  case inx =>
    exact regs68_plain (show execM6800Inx s = _ from rfl) hp
      (by simp only [word_add_one_eq_zero]; rw [word_add_one_eq_ofNat])
  case dex =>
    exact regs68_plain (show execM6800Dex s = _ from rfl) hp
      (by simp only [word_sub_one_eq_zero]; rw [word_sub_one_eq_ofNat])
  case ins => exact regs68_plain (show execM6800Ins s = _ from rfl) hp (by rw [word_add_one_eq_ofNat])
  case des => exact regs68_plain (show execM6800Des s = _ from rfl) hp (by rw [word_sub_one_eq_ofNat])

/-- Settles O51: the additions are `addAcc` of an accumulator. -/
theorem adds6800 : Obligations.Adds6800 := by
  intro s hp
  refine ⟨fun m => ⟨?adda, ?addb, ?adca, ?adcb⟩, ?aba⟩
  case adda => exact read68_plain (show execM6800Adda m s = _ from rfl) hp (addAcc_eq .a _ _ _)
  case addb => exact read68_plain (show execM6800Addb m s = _ from rfl) hp (addAcc_eq .b _ _ _)
  case adca => exact read68_plain (show execM6800Adca m s = _ from rfl) hp (addAcc_eq .a _ _ _)
  case adcb => exact read68_plain (show execM6800Adcb m s = _ from rfl) hp (addAcc_eq .b _ _ _)
  case aba => exact regs68_plain (show execM6800Aba s = _ from rfl) hp (addAcc_eq .a _ _ _)

/-- Settles O52: the subtractions are `subAcc` of an accumulator, the compares its flags alone. -/
theorem subtracts6800 : Obligations.Subtracts6800 := by
  intro s hp
  refine ⟨fun m => ⟨?suba, ?subb, ?sbca, ?sbcb, ?cmpa, ?cmpb⟩, ?sba, ?cba⟩
  case suba => exact read68_plain (show execM6800Suba m s = _ from rfl) hp (subAcc_eq .a _ _ _)
  case subb => exact read68_plain (show execM6800Subb m s = _ from rfl) hp (subAcc_eq .b _ _ _)
  case sbca => exact read68_plain (show execM6800Sbca m s = _ from rfl) hp (subAcc_eq .a _ _ _)
  case sbcb => exact read68_plain (show execM6800Sbcb m s = _ from rfl) hp (subAcc_eq .b _ _ _)
  case cmpa => exact read68_plain (show execM6800Cmpa m s = _ from rfl) hp (subFlags68_eq _ _ _ _)
  case cmpb => exact read68_plain (show execM6800Cmpb m s = _ from rfl) hp (subFlags68_eq _ _ _ _)
  case sba => exact regs68_plain (show execM6800Sba s = _ from rfl) hp (subAcc_eq .a _ _ _)
  case cba => exact regs68_plain (show execM6800Cba s = _ from rfl) hp (subFlags68_eq _ _ _ _)

/-- Settles O53, from `cpx68_eq`. -/
theorem cpx6800 : Obligations.Cpx6800 := by
  intro s hp r m
  exact read68W_plain (show execM6800Cpx m s = _ from rfl) hp (cpx68_eq _ _)

/-- Settles O54: a logical result goes through `logicAcc`, or through its flags alone for BITA and BITB. -/
theorem logic6800 : Obligations.Logic6800 := by
  intro s hp r m
  refine ⟨?anda, ?andb, ?bita, ?bitb, ?eora, ?eorb, ?oraa, ?orab⟩
  case anda => exact read68_plain (show execM6800Anda m s = _ from rfl) hp (logicAcc_eq .a _ _)
  case andb => exact read68_plain (show execM6800Andb m s = _ from rfl) hp (logicAcc_eq .b _ _)
  case bita => exact read68_plain (show execM6800Bita m s = _ from rfl) hp (nzv0_eq _ _)
  case bitb => exact read68_plain (show execM6800Bitb m s = _ from rfl) hp (nzv0_eq _ _)
  case eora => exact read68_plain (show execM6800Eora m s = _ from rfl) hp (logicAcc_eq .a _ _)
  case eorb => exact read68_plain (show execM6800Eorb m s = _ from rfl) hp (logicAcc_eq .b _ _)
  case oraa => exact read68_plain (show execM6800Oraa m s = _ from rfl) hp (logicAcc_eq .a _ _)
  case orab => exact read68_plain (show execM6800Orab m s = _ from rfl) hp (logicAcc_eq .b _ _)

/-- Settles O55: DAA is `daa68` with the next value drawn. -/
theorem daa6800 : Obligations.Daa6800 := by
  intro s hp
  refine ⟨_, show execM6800Daa s = _ from run_of_profile hp, wrote_nil_of_mem rfl, ?_⟩
  simp only [daa68_eq, daaCorrection_eq]
  rfl

/-- Settles O56: five mnemonics by their primitive in numbers; CLR reads nothing and TST writes nothing. -/
theorem singleOperand6800 : Obligations.SingleOperand6800 := by
  refine ⟨?neg, ?com, ?inc, ?dec, fun s hp => ?clr, fun s hp => ⟨?tsta, ?tstb, fun m => ?tst⟩⟩
  case neg =>
    exact singleOperand_of_rmw68 (fun _ => rfl) (fun _ => rfl) (fun _ _ => rfl) rfl rfl (fun _ => rfl) neg68_eq
  case com =>
    exact singleOperand_of_rmw68 (fun _ => rfl) (fun _ => rfl) (fun _ _ => rfl) rfl rfl (fun _ => rfl) com68_eq
  case inc =>
    exact singleOperand_of_rmw68 (fun _ => rfl) (fun _ => rfl) (fun _ _ => rfl) rfl rfl (fun _ => rfl) inc68_eq
  case dec =>
    exact singleOperand_of_rmw68 (fun _ => rfl) (fun _ => rfl) (fun _ _ => rfl) rfl rfl (fun _ => rfl) dec68_eq
  case clr =>
    simp only [Nat.zero_mul]
    refine ⟨?clra, ?clrb, fun m => ?clr⟩
    case clra => exact regs68_plain (show execM6800Clra s = _ from rfl) hp rfl
    case clrb => exact regs68_plain (show execM6800Clrb s = _ from rfl) hp rfl
    case clr =>
      exact runs68_of_run0 (show execM6800Clr m s = _ from rfl) hp
        (wrote_cons (t := s.advance _) (wrote_nil_of_mem rfl) _ _ (by simp only [Ea68.addr_advance]; rfl)) rfl
  case tsta => exact regs68_plain (show execM6800Tsta s = _ from rfl) hp (tst68_eq _ _)
  case tstb => exact regs68_plain (show execM6800Tstb s = _ from rfl) hp (tst68_eq _ _)
  case tst => exact read68_plain (show execM6800Tst m s = _ from rfl) hp (tst68_eq _ _)

/-- Settles O57, from each shift's result and carry in numbers. -/
theorem shifts6800 : Obligations.Shifts6800 := by
  refine ⟨?asl, ?asr, ?lsr, ?rol, ?ror⟩
  case asl =>
    exact shift68_of_rmw68 (out := fun _ => aslOut) (fun _ => rfl) (fun _ => rfl) (fun _ _ => rfl) rfl rfl
      (fun _ => rfl) (fun _ _ => rfl) fun _ => aslOut_eq
  case asr =>
    exact shift68_of_rmw68 (out := fun _ => asrOut) (fun _ => rfl) (fun _ => rfl) (fun _ _ => rfl) rfl rfl
      (fun _ => rfl) (fun _ _ => rfl) fun _ => asrOut_eq
  case lsr =>
    exact shift68_of_rmw68 (out := fun _ => lsrOut) (fun _ => rfl) (fun _ => rfl) (fun _ _ => rfl) rfl rfl
      (fun _ => rfl) (fun _ _ => rfl) fun _ => lsrOut_eq
  case rol =>
    exact shift68_of_rmw68 (out := rolOut) (fun _ => rfl) (fun _ => rfl) (fun _ _ => rfl) rfl rfl (fun _ => rfl)
      (fun _ _ => rfl) rolOut_eq
  case ror =>
    exact shift68_of_rmw68 (out := rorOut) (fun _ => rfl) (fun _ => rfl) (fun _ _ => rfl) rfl rfl (fun _ => rfl)
      (fun _ _ => rfl) rorOut_eq

/-- Settles O60: each flag instruction is its own update of the register file, and NOP none. -/
theorem flagInstructions6800 : Obligations.FlagInstructions6800 := by
  intro s hp
  refine ⟨?nop, ?clc, ?sec, ?cli, ?sei, ?clv, ?sev⟩
  case nop => exact runs68_of_run0 (show execM6800Nop s = _ from rfl) hp (wrote_nil_of_mem rfl) rfl
  case clc => exact regs68_plain (show execM6800Clc s = _ from rfl) hp rfl
  case sec => exact regs68_plain (show execM6800Sec s = _ from rfl) hp rfl
  case cli => exact regs68_plain (show execM6800Cli s = _ from rfl) hp rfl
  case sei => exact regs68_plain (show execM6800Sei s = _ from rfl) hp rfl
  case clv => exact regs68_plain (show execM6800Clv s = _ from rfl) hp rfl
  case sev => exact regs68_plain (show execM6800Sev s = _ from rfl) hp rfl

end Sys2Proof.Machine

/-!
# Decimal arithmetic (42_alu.md R161, R163, R174)

`bcdCode` writes a number in decimal digits, one nibble each. On bytes of two decimal digits each correction gives the code
of the decimal result: ADC's sum, SBC's difference, and the binary sum that DAA corrects.
-/

namespace Sys2Proof.Machine

/-! ### Numbers in decimal digits -/

/-- The digits of a number below 1000, one nibble each: each carry of a digit skips six codes. -/
def bcdCode (n : Nat) : Nat := n + 6 * (n / 10) + 96 * (n / 100)

theorem bcdCode_mod (n : Nat) : bcdCode n % 256 = n / 10 % 10 * 16 + n % 10 := by
  have htens : n / 10 = 10 * (n / 100) + n / 10 % 10 := by omega
  have hcode : bcdCode n = 256 * (n / 100) + (n / 10 % 10 * 16 + n % 10) := by
    unfold bcdCode
    omega
  rw [hcode, Nat.mul_add_mod]
  apply Nat.mod_eq_of_lt
  omega

theorem isBcd_and_bcdValue_of_bcdCode {b : Byte} {n : Nat} (h : b.toNat = bcdCode n % 256) :
    isBcd b ∧ bcdValue b = n % 100 := by
  rw [bcdCode_mod] at h
  unfold isBcd bcdValue
  omega

/-- The hundreds are the carry out of the byte. -/
theorem le_bcdCode_iff (n : Nat) : 256 ≤ bcdCode n ↔ 100 ≤ n := by
  unfold bcdCode
  omega

/-! ### The M6502 -/

/-- The decimally corrected sum of ADC, with its carry out as bit 8 (42_alu.md R161). -/
def decimalSum (a v : Byte) (c : Bool) : Nat :=
  let units := a.toNat % 16 + v.toNat % 16 + bit c
  let low := if 10 ≤ units then (units + 6) % 16 + 16 else units
  let high := highNibble a + highNibble v + low
  if 160 ≤ high then high + 96 else high

theorem adcDecimal_a (v : Byte) (r : Regs65) : (adcDecimal v r).a = BitVec.ofNat 8 (decimalSum r.a v r.c) := rfl

theorem adcDecimal_c (v : Byte) (r : Regs65) : (adcDecimal v r).c = decide (256 ≤ decimalSum r.a v r.c) := rfl

/-- The units carry at 10, and so do the tens. -/
theorem decimalSum_of_isBcd {a v : Byte} (c : Bool) (ha : isBcd a) (hv : isBcd v) :
    decimalSum a v c = bcdCode (bcdValue a + bcdValue v + bit c) := by
  have hc := bit_le c
  unfold isBcd at ha hv
  simp only [decimalSum, highNibble, bcdCode, bcdValue]
  split <;> split <;> omega

theorem adcDecimal_of_isBcd {v : Byte} {r : Regs65} (ha : isBcd r.a) (hv : isBcd v) :
    isBcd (adcDecimal v r).a ∧
    bcdValue (adcDecimal v r).a = (bcdValue r.a + bcdValue v + bit r.c) % 100 ∧
    (adcDecimal v r).c = decide (100 ≤ bcdValue r.a + bcdValue v + bit r.c) := by
  have hsum := decimalSum_of_isBcd r.c ha hv
  obtain ⟨hbcd, hvalue⟩ := isBcd_and_bcdValue_of_bcdCode (b := (adcDecimal v r).a)
    (by rw [adcDecimal_a, hsum, BitVec.toNat_ofNat])
  refine ⟨hbcd, hvalue, ?_⟩
  rw [adcDecimal_c, hsum, decide_eq_decide]
  exact le_bcdCode_iff _

/-- The decimally corrected difference of SBC, negative where it borrows (42_alu.md R163). -/
def decimalDifference (a v : Byte) (c : Bool) : Int :=
  let units : Int := (a.toNat % 16 : Nat) - (v.toNat % 16 : Nat) + bit c - 1
  let low : Int := if units < 0 then (units - 6) % 16 - 16 else units
  let high : Int := (highNibble a : Nat) - (highNibble v : Nat) + low
  if high < 0 then high - 96 else high

theorem sbcDecimalResult_eq (a v : Byte) (c : Bool) :
    sbcDecimalResult a v c = BitVec.ofInt 8 (decimalDifference a v c) := rfl

/-- The units borrow below 0, and so do the tens; with 100 added there is no borrow. -/
theorem decimalDifference_of_isBcd {a v : Byte} (c : Bool) (ha : isBcd a) (hv : isBcd v) :
    decimalDifference a v c + 256 = bcdCode (bcdValue a + 99 + bit c - bcdValue v) := by
  have hc := bit_le c
  unfold isBcd at ha hv
  simp only [decimalDifference, highNibble, bcdCode, bcdValue]
  split <;> split <;> omega

theorem sbcDecimalResult_of_isBcd {a v : Byte} (c : Bool) (ha : isBcd a) (hv : isBcd v) :
    isBcd (sbcDecimalResult a v c) ∧
    bcdValue (sbcDecimalResult a v c) = (bcdValue a + 99 + bit c - bcdValue v) % 100 := by
  have hdiff := decimalDifference_of_isBcd c ha hv
  apply isBcd_and_bcdValue_of_bcdCode
  rw [sbcDecimalResult_eq, BitVec.toNat_ofInt]
  omega

/-- The carry of SBC, which is that of the binary difference, is no borrow of the decimal one. -/
theorem sbcBinary_c_of_isBcd {v : Byte} {r : Regs65} (ha : isBcd r.a) (hv : isBcd v) :
    (sbcBinary v r).c = decide (bcdValue v + 1 ≤ bcdValue r.a + bit r.c) := by
  have hc := bit_le r.c
  unfold isBcd at ha hv
  rw [sbcBinary_eq, decide_eq_decide]
  unfold bcdValue
  omega

/-- An instruction of the shape `read65` leaves its operation on the register file. -/
theorem read65_next {i : Instr} {s : State} {src : Src65} {f : Byte → Regs65 → Regs65}
    (he : exec i s = read65 i src f s) (hp : s.profile = i.profile) :
    ∃ t, exec i s = .next t ∧ t.m6502 = f (src.value s) s.m6502 := by
  obtain ⟨t, ht, -, hstate⟩ := read65_plain he hp rfl
  exact ⟨t, ht, congrArg State.m6502 hstate⟩

/-- Settles O31: with D = 1 ADC and SBC are the decimal operations, which are decimal on decimal digits. -/
theorem decimalArithmetic6502 : Obligations.DecimalArithmetic6502 := by
  intro s m hp hd hm ha hv a v c
  constructor
  · have he : exec (.m6502Adc m) s = execM6502Adc m s := rfl
    obtain ⟨t, ht, hr⟩ := read65_next he hp
    rw [hm, adc65_of_decimal hd] at hr
    refine ⟨t, ht, ?_⟩
    rw [hr]
    exact adcDecimal_of_isBcd ha hv
  · have he : exec (.m6502Sbc m) s = execM6502Sbc m s := rfl
    obtain ⟨t, ht, hr⟩ := read65_next he hp
    rw [hm, sbc65_of_decimal hd] at hr
    obtain ⟨hbcd, hvalue⟩ := sbcDecimalResult_of_isBcd s.m6502.c ha hv
    refine ⟨t, ht, ?_⟩
    rw [hr]
    exact ⟨hbcd, hvalue, sbcBinary_c_of_isBcd ha hv⟩

/-! ### The M6800 -/

/-- DAA's correction completes a binary sum of decimal digits: H and C are the carries that the nibbles of the sum do not
show (42_alu.md R174). -/
theorem daaCorrection_add8 {x v : Byte} (cin : Bool) (hx : isBcd x) (hv : isBcd v) :
    x.toNat + v.toNat + bit cin + daaCorrection (add8 x v cin).r (add8 x v cin).h (add8 x v cin).c =
      bcdCode (bcdValue x + bcdValue v + bit cin) := by
  have hc := bit_le cin
  unfold isBcd at hx hv
  rw [daaCorrection_eq]
  simp only [add8, decide_eq_true_eq, BitVec.toNat_ofNat, bcdCode, bcdValue]
  split <;> split <;> omega

/-- DAA on the result of an addition to A. -/
theorem daa68_addAcc {v : Byte} {r : Regs68} (draw cin : Bool) (hx : isBcd r.a) (hv : isBcd v) :
    isBcd (daa68 draw (addAcc .a v cin r)).a ∧
    bcdValue (daa68 draw (addAcc .a v cin r)).a = (bcdValue r.a + bcdValue v + bit cin) % 100 ∧
    (daa68 draw (addAcc .a v cin r)).c = decide (100 ≤ bcdValue r.a + bcdValue v + bit cin) := by
  have hsum := daaCorrection_add8 cin hx hv
  have hcarry := le_bcdCode_iff (bcdValue r.a + bcdValue v + bit cin)
  have hr : (add8 r.a v cin).r.toNat = (r.a.toNat + v.toNat + bit cin) % 256 := BitVec.toNat_ofNat _ _
  have hc : (add8 r.a v cin).c = decide (256 ≤ r.a.toNat + v.toNat + bit cin) := rfl
  obtain ⟨ha, hh, hcin⟩ : (addAcc .a v cin r).a = (add8 r.a v cin).r ∧ (addAcc .a v cin r).h = (add8 r.a v cin).h ∧
      (addAcc .a v cin r).c = (add8 r.a v cin).c := ⟨rfl, rfl, rfl⟩
  simp only [daa68_eq, ha, hh, hcin]
  generalize daaCorrection _ _ _ = correction at *
  rw [← and_assoc]
  constructor
  · apply isBcd_and_bcdValue_of_bcdCode
    rw [BitVec.toNat_ofNat]
    omega
  · rw [hc, ← Bool.decide_or, decide_eq_decide]
    omega

theorem daa_next {s : State} (hp : s.profile = .m6800) :
    ∃ t, exec .m6800Daa s = .next t ∧ t.m6800 = daa68 (Config.freeDaaV s.draws) s.m6800 :=
  ⟨_, (show execM6800Daa s = _ from run_of_profile hp), rfl⟩

/-- An addition to A followed by DAA, whatever V the draw gives. -/
theorem daa_after_addAcc {i : Instr} {s : State} {v : Byte} {cin : Bool}
    (h : Plain68 i s (addAcc .a v cin s.m6800) []) (hp : s.profile = .m6800) (hx : isBcd s.m6800.a) (hv : isBcd v) :
    ∃ t u, exec i s = .next t ∧ exec .m6800Daa t = .next u ∧ isBcd u.m6800.a ∧
      bcdValue u.m6800.a = (bcdValue s.m6800.a + bcdValue v + bit cin) % 100 ∧
      u.m6800.c = decide (100 ≤ bcdValue s.m6800.a + bcdValue v + bit cin) := by
  obtain ⟨t, ht, -, hstate⟩ := h
  have hprofile : t.profile = .m6800 := (congrArg State.profile hstate).trans hp
  have hadd : t.m6800 = addAcc .a v cin s.m6800 := congrArg State.m6800 hstate
  obtain ⟨u, hu, hdaa⟩ := daa_next hprofile
  rw [hadd] at hdaa
  refine ⟨t, u, ht, hu, ?_⟩
  rw [hdaa]
  exact daa68_addAcc _ cin hx hv

/-- Settles O32: each of the three is an addition to A, with its own operand and carry in. -/
theorem addThenDaa6800 : Obligations.AddThenDaa6800 := by
  intro s m hp hx decimalAfter v
  refine ⟨fun hv => ?adda, fun hv => ?adca, fun hb => ?aba⟩
  case adda =>
    exact daa_after_addAcc (cin := false) (read68_plain (show execM6800Adda m s = _ from rfl) hp rfl) hp hx hv
  case adca =>
    exact daa_after_addAcc (read68_plain (show execM6800Adca m s = _ from rfl) hp rfl) hp hx hv
  case aba =>
    exact daa_after_addAcc (cin := false) (regs68_plain (show execM6800Aba s = _ from rfl) hp rfl) hp hx hb

end Sys2Proof.Machine

/-!
# The loads and stores of the M6502 (43_m6502_load_store_transfer.md R200 to R205)
-/

namespace Sys2Proof.Machine

/-- Settles O33: each load is one read, with Z and N as `zn65` gives them. -/
theorem loads6502 : Obligations.Loads6502 := by
  intro s hp
  refine ⟨fun m => ?lda, fun m => ?ldx, fun m => ?ldy⟩
  case lda => exact read65_plain (show execM6502Lda m s = _ from rfl) hp (by rw [zn65_eq])
  case ldx => exact read65_plain (show execM6502Ldx m s = _ from rfl) hp (by rw [zn65_eq])
  case ldy => exact read65_plain (show execM6502Ldy m s = _ from rfl) hp (by rw [zn65_eq])

/-- Settles O34: each store writes one byte, at the address of its mode. -/
theorem stores6502 : Obligations.Stores6502 := by
  intro s hp
  refine ⟨fun m => ?sta, fun m => ?stx, fun m => ?sty⟩
  case sta => exact store65_plain (show execM6502Sta m s = _ from rfl) hp
  case stx => exact store65_plain (show execM6502Stx m s = _ from rfl) hp
  case sty => exact store65_plain (show execM6502Sty m s = _ from rfl) hp

end Sys2Proof.Machine

/-!
# The control instructions of the M6502 (45_m6502_control.md R250 to R267), and returns from traps on both profiles

A return pulls what the trap before it pushed: the bytes of a frame stand at distinct addresses whatever the stack pointer
is, so each reads back as it was stored (`stacked_pushFrame65`, `stacked_pushFrame68`).
-/

namespace Sys2Proof.Machine

/-! ### Writes after PC has moved past the instruction -/

theorem bytesAfter_advance (s : State) (n : Nat) (writes : List (Word × Byte)) (a : Word) :
    bytesAfter (s.advance n) writes a = bytesAfter s writes a := by
  induction writes with
  | nil => rfl
  | cons write earlier ih => simp only [bytesAfter, ih]

theorem wrote_of_advance {s t : State} {n : Nat} {writes : List (Word × Byte)} (h : Wrote (s.advance n) t writes) :
    Wrote s t writes := fun a => (h a).trans (bytesAfter_advance s n writes a)

/-! ### Stack bytes -/

/-- The stack is in page 1 (10_state.md R21). -/
theorem stackAddr65_eq_ofNat (sp : Byte) : stackAddr65 sp = BitVec.ofNat 16 (256 + sp.toNat) :=
  eq_ofNat_of_toNat_eq (stackAddr65_toNat sp)

/-! ### The pushed status byte -/

/-- Bit 5 of P reads as 1 already (10_state.md R24). -/
theorem getP_or_bit5 (r : Regs65) : getP r ||| 0x20#8 = getP r := by
  rw [← getP_setP r, setP_getP]

/-- The byte PHP pushes has bits 5 and 4 set (10_state.md R25). -/
theorem getP_or_bit4 (r : Regs65) : getP r ||| 0x10#8 = getP r ||| 0x30#8 := by
  have h : 0x20#8 ||| 0x10#8 = 0x30#8 := rfl
  rw [← h, ← BitVec.or_assoc, getP_or_bit5]

/-- The status byte of a BRK has bits 5 and 4 set (40_execution_cycle.md R116). -/
theorem frameStatus65_true (r : Regs65) : frameStatus65 r true = getP r ||| 0x30#8 := by
  unfold frameStatus65
  generalize getP r = p
  revert p
  decide

/-- Pulling a frame's status byte gives back every flag but B, which is the one the frame was pushed with. -/
theorem setP_frameStatus65 (r r' : Regs65) (bFlag : Bool) :
    setP r' (frameStatus65 r bFlag) =
      { r' with n := r.n, v := r.v, b := bFlag, d := r.d, i := r.i, z := r.z, c := r.c } := by
  simp only [setP, frameStatus65, BitVec.getLsbD_or, BitVec.getLsbD_and, getP_bits]
  cases bFlag <;> simp

/-! ### A frame reads back -/

theorem wrote_pushedFrame65 (pc : Word) (bFlag : Bool) (s : State) :
    Wrote s (pushFrame65 pc bFlag s)
      (frameWrites65 s.params.stackOrder s.m6502.sp pc (frameStatus65 s.m6502 bFlag)) := by
  have h := wrote_pushFrame65 (wrote_nil_of_mem (s := s) rfl) pc bFlag
  rwa [List.append_nil] at h

/-- The status byte and the word of an M6502 frame just pushed. -/
theorem stacked_pushFrame65 (pc : Word) (bFlag : Bool) (s : State) :
    (pushFrame65 pc bFlag s).readByte (stackAddr65 (s.m6502.sp - 2)) = frameStatus65 s.m6502 bFlag ∧
    stackedWord65 (pushFrame65 pc bFlag s) (s.m6502.sp - 2) = pc := by
  have hread (a : Word) := wrote_pushedFrame65 pc bFlag s a
  have hparams : (pushFrame65 pc bFlag s).params = s.params := (Keeps.pushFrame65 pc bFlag s).params
  have hsp : s.m6502.sp = s.m6502.sp - 2 + 2#8 := (BitVec.sub_add_cancel ..).symm
  simp only [stackedWord65, hparams, hread, frameWrites65, pushedWord65]
  generalize s.m6502.sp - 2 = base at hsp
  cases s.params.stackOrder <;>
  · simp only [hsp, bytesAfter, stackAddr65_inj, BitVec.sub_eq_add_neg, BitVec.add_assoc, BitVec.add_right_inj]
    simp

/-- The bytes of an M6800 frame just pushed: CC, B, A, IX and PC upward from SP. -/
theorem stacked_pushFrame68 (s : State) :
    let stacked (k : Nat) : Byte := (pushFrame68 s).readByte (s.m6800.sp - 7 + BitVec.ofNat 16 k)
    stacked 1 = getCC s.m6800 ∧ stacked 2 = s.m6800.b ∧ stacked 3 = s.m6800.a ∧ stacked 4 = hi s.m6800.ix ∧
    stacked 5 = lo s.m6800.ix ∧ stacked 6 = hi s.pc ∧ stacked 7 = lo s.pc := by
  have hread (a : Word) := wrote_pushFrame68 (wrote_nil_of_mem (s := s) rfl) a
  have hsp : s.m6800.sp = s.m6800.sp - 7 + 7#16 := (BitVec.sub_add_cancel ..).symm
  simp only [hread, frameWrites68, List.append_nil]
  generalize s.m6800.sp - 7 = base at hsp
  simp only [hsp, bytesAfter, BitVec.sub_eq_add_neg, BitVec.add_assoc, BitVec.add_right_inj]
  simp

/-- A vector above the stack page reads as before the frame. -/
theorem readLowFirst_pushFrame65 (pc : Word) (bFlag : Bool) (s : State) {vector : Word} (hlow : 512 ≤ vector.toNat)
    (hhigh : 512 ≤ (vector + 1).toNat) :
    (pushFrame65 pc bFlag s).readLowFirst vector = s.readLowFirst vector := by
  simp only [State.readLowFirst, readByte_pushFrame65 pc bFlag s _ hlow, readByte_pushFrame65 pc bFlag s _ hhigh]

/-- What `pullFrame65` gives where memory and SP are as a frame left them. -/
theorem pullFrame65_of_pushed {s t : State} {pc : Word} {bFlag : Bool} (hmem : t.mem = (pushFrame65 pc bFlag s).mem)
    (hparams : t.params = s.params) (hsp : t.m6502.sp = s.m6502.sp - 3) :
    pullFrame65 t =
      { t with
        m6502 :=
          { t.m6502 with
            sp := s.m6502.sp, n := s.m6502.n, v := s.m6502.v, b := bFlag, d := s.m6502.d, i := s.m6502.i
            z := s.m6502.z, c := s.m6502.c }
        pc := pc } := by
  obtain ⟨hstatus, hword⟩ := stacked_pushFrame65 pc bFlag s
  have hread : stackedWord65 t = stackedWord65 (pushFrame65 pc bFlag s) := by
    funext sp
    simp only [stackedWord65, hparams, readByte_congr hmem, (Keeps.pushFrame65 pc bFlag s).params]
  have h1 : s.m6502.sp - 3 + 1 = s.m6502.sp - 2 := by bv_omega
  rw [pullFrame65_eq, hread, readByte_congr hmem, hsp, h1, hstatus, hword, setP_frameStatus65, BitVec.sub_add_cancel]

/-- What `pullFrame68` gives where memory and SP are as a frame left them. -/
theorem pullFrame68_of_pushed {s t : State} (hmem : t.mem = (pushFrame68 s).mem)
    (hsp : t.m6800.sp = s.m6800.sp - 7) : pullFrame68 t = { t with m6800 := s.m6800, pc := s.pc } := by
  obtain ⟨h1, h2, h3, h4, h5, h6, h7⟩ := stacked_pushFrame68 s
  simp only [pullFrame68_eq, readByte_congr hmem, hsp, h1, h2, h3, h4, h5, h6, h7, w16_hi_lo, BitVec.sub_add_cancel,
    setCC, getCC_bits]

/-! ### The frame a trap leaves -/

theorem brk_next {s t : State} (h : exec .m6502Brk s = .next t) :
    t.profile = .m6502 ∧ t.mem = (pushFrame65 (s.pc + 2) true (s.advance 1)).mem ∧ t.params = s.params ∧
      t.m6502 = { s.m6502 with sp := s.m6502.sp - 3, i := true } := by
  have hpc : s.pc + 1 + 1 = s.pc + 2 := by bv_omega
  obtain ⟨hp, rfl⟩ := run_eq_next (show execM6502Brk s = .next t from h)
  rw [← hpc, enter65_eq]
  exact ⟨hp, rfl, rfl, rfl⟩

/-- SWI and WAI stack the same frame; they differ in what follows it (48_m6800_control.md R421, R422). -/
theorem swi_or_wai_next {i : Instr} {s t : State} (hi : i = .m6800Swi ∨ i = .m6800Wai) (h : exec i s = .next t) :
    t.profile = .m6800 ∧ t.mem = (pushFrame68 (s.advance 1)).mem ∧ t.m6800.sp = s.m6800.sp - 7 := by
  obtain rfl | rfl := hi
  case inl =>
    obtain ⟨hp, rfl⟩ := run_eq_next (show execM6800Swi s = .next t from h)
    rw [enter68_eq]
    exact ⟨hp, rfl, rfl⟩
  case inr =>
    obtain ⟨hp, rfl⟩ := run_eq_next (show execM6800Wai s = .next t from h)
    dsimp only
    rw [pushFrame68_eq]
    exact ⟨hp, rfl, rfl⟩

/-! ### Return addresses -/

/-- The return address in terms of the opcode's own address: JSR is three bytes long (R260). -/
theorem jsrPushed_next (c : Config.JsrConvention) (pc : Word) :
    jsrPushed c (pc + 3) = if c = .hw then pc + 2 else pc + 3 := by
  cases c
  case hw =>
    show pc + 3 - 1 = pc + 2
    bv_omega
  case doc => rfl

theorem rtsTarget_eq (c : Config.JsrConvention) (pulled : Word) :
    rtsTarget c pulled = pulled + if c = .hw then 1 else 0 := by
  cases c
  case hw => rfl
  case doc => exact (BitVec.add_zero pulled).symm

/-! ### The statements -/

/-- Settles O42: each branch is `branch65` with its condition. -/
theorem branches6502 : Obligations.Branches6502 := by
  intro s off hp
  refine ⟨?bpl, ?bmi, ?bvc, ?bvs, ?bcc, ?bcs, ?bne, ?beq⟩
  case bpl => exact branch65_of (cond := fun r => !r.n) (show execM6502Bpl off s = _ from rfl) hp rfl
  case bmi => exact branch65_of (show execM6502Bmi off s = _ from rfl) hp rfl
  case bvc => exact branch65_of (cond := fun r => !r.v) (show execM6502Bvc off s = _ from rfl) hp rfl
  case bvs => exact branch65_of (show execM6502Bvs off s = _ from rfl) hp rfl
  case bcc => exact branch65_of (cond := fun r => !r.c) (show execM6502Bcc off s = _ from rfl) hp rfl
  case bcs => exact branch65_of (show execM6502Bcs off s = _ from rfl) hp rfl
  case bne => exact branch65_of (cond := fun r => !r.z) (show execM6502Bne off s = _ from rfl) hp rfl
  case beq => exact branch65_of (show execM6502Beq off s = _ from rfl) hp rfl

/-- Settles O43: JSR is a pushed word and RTS a pulled one, with the return address by the convention. -/
theorem jumps6502 : Obligations.Jumps6502 := by
  intro s hp
  refine ⟨fun w => ?abs, fun w => ?ind, fun w => ?jsr, ?rts⟩
  case abs => exact runs65_of_run0 (show execM6502Jmp (.abs w) s = _ from rfl) hp (wrote_nil_of_mem rfl) rfl
  case ind => exact runs65_of_run0 (show execM6502Jmp (.ind w) s = _ from rfl) hp (wrote_nil_of_mem rfl) rfl
  case jsr =>
    rw [← jsrPushed_next]
    refine runs65_of_run0 (show execM6502Jsr w s = _ from rfl) hp ?_ ?_
    · exact wrote_congr (wrote_of_advance (wrote_pushedWord65 _ (s.advance 3))) rfl
    · dsimp only
      rw [push16At65_eq]
      rfl
  case rts =>
    refine runs65_of_run0 (show execM6502Rts s = _ from rfl) hp (wrote_nil_of_mem rfl) ?_
    dsimp only
    rw [pull16At65_eq, pulled16At65_eq, rtsTarget_eq]
    rfl

/-- Settles O44: BRK enters its trap with the word at the vector as it was, and RTI pulls the frame. -/
theorem trapAndReturn6502 : Obligations.TrapAndReturn6502 := by
  intro s hp
  refine ⟨?brk, ?rti⟩
  case brk =>
    have hpc : s.pc + 1 + 1 = s.pc + 2 := by bv_omega
    rw [← frameStatus65_true, ← hpc]
    refine runs65_of_run0 (show execM6502Brk s = _ from rfl) hp ?_ ?_
    · exact wrote_of_advance (wrote_congr (wrote_pushedFrame65 _ true (s.advance 1)) (by rw [enter65_eq]; rfl))
    · rw [enter65_eq, readLowFirst_pushFrame65 _ _ _ (by decide) (by decide)]
      rfl
  case rti =>
    refine runs65_of_run0 (show execM6502Rti s = _ from rfl) hp (wrote_nil_of_mem (pullFrame65_mem _)) ?_
    rw [pullFrame65_eq]
    rfl

/-- Settles O45: PHA and PHP are a push, PLA and PLP a pull. -/
theorem stack6502 : Obligations.Stack6502 := by
  intro s hp
  have hpush := stackAddr65_eq_ofNat s.m6502.sp
  have hpull := stackAddr65_eq_ofNat (s.m6502.sp + 1)
  have hsp : (s.m6502.sp + 1).toNat = (s.m6502.sp.toNat + 1) % 256 := BitVec.toNat_add ..
  rw [hsp] at hpull
  simp only [← hpush, ← hpull, ← getP_or_bit4]
  refine ⟨?pha, ?php, ?pla, ?plp⟩
  case pha =>
    exact runs65_of_run (show execM6502Pha s = _ from rfl) hp (wrote_push65 (wrote_nil_of_mem rfl) _) rfl
  case php =>
    exact runs65_of_run (show execM6502Php s = _ from rfl) hp (wrote_push65 (wrote_nil_of_mem rfl) _) rfl
  case pla =>
    refine runs65_of_run (show execM6502Pla s = _ from rfl) hp (wrote_nil_of_mem rfl) ?_
    simp only [zn65_eq]
    rfl
  case plp => exact runs65_of_run (show execM6502Plp s = _ from rfl) hp (wrote_nil_of_mem rfl) rfl

/-- Settles O23: a return pulls the frame that the trap pushed. -/
theorem trapThenReturn : Obligations.TrapThenReturn := by
  refine ⟨fun i s t hi h => ?m6800, fun s t h => ?m6502⟩
  case m6800 =>
    obtain ⟨hp, hmem, hsp⟩ := swi_or_wai_next hi h
    have hpull := pullFrame68_of_pushed (t := t.advance Instr.m6800Rti.size) hmem hsp
    refine ⟨_, show execM6800Rti t = _ from run_of_profile hp, ?_⟩
    rw [hpull]
    exact ⟨rfl, rfl, rfl⟩
  case m6502 =>
    obtain ⟨hp, hmem, hparams, hregs⟩ := brk_next h
    have hpull := pullFrame65_of_pushed (t := t.advance Instr.m6502Rti.size) hmem hparams (congrArg Regs65.sp hregs)
    refine ⟨_, show execM6502Rti t = _ from run_of_profile hp, ?_⟩
    rw [hpull, State.advance_m6502, hregs]
    exact ⟨rfl, rfl, rfl⟩

end Sys2Proof.Machine

/-!
# The control instructions of the M6800 (48_m6800_control.md R400 to R422)
-/

namespace Sys2Proof.Machine

/-! ### Subroutines and traps -/

/-- BSR and JSR push the address of the next instruction and go to a target found before the push (R416, R418). -/
theorem runs68_of_call {i : Instr} {s : State} {target : State → Word}
    (he : exec i s = run i 0 (fun t => { push16At68 t.pc t with pc := target t }) s) (hp : s.profile = i.profile) :
    Runs68 i s { s.m6800 with sp := s.m6800.sp - 2 } (target (s.advance i.size))
      [(s.m6800.sp - 1, hi (s.after i)), (s.m6800.sp, lo (s.after i))] (s.cyclesOf i) := by
  have hw := wrote_of_advance (wrote_pushedWord68 (s.after i) (s.advance i.size))
  refine runs68_of_run0 he hp (wrote_congr hw rfl) ?_
  dsimp only
  rw [push16At68_eq]
  rfl

/-- The frame SWI and WAI push: PC is already at the next instruction (R421, R422). -/
theorem wrote_trapFrame68 (s : State) :
    Wrote s (pushFrame68 (s.advance 1)) (frameWrites68 s.m6800 (s.pc + 1)) := by
  have hw := wrote_pushFrame68 (wrote_nil_of_mem (s := s) (t := s.advance 1) rfl)
  rwa [List.append_nil] at hw

/-- A vector is read after the writes of the frame (60_exceptions.md R521). -/
theorem readHighFirst_of_wrote {s t : State} {writes : List (Word × Byte)} (h : Wrote s t writes) (vector : Word) :
    t.readHighFirst vector = w16 (bytesAfter s writes vector) (bytesAfter s writes (vector + 1)) := by
  rw [State.readHighFirst, h, h]

/-! ### The statements -/

/-- Settles O58: each branch is `branch68` with its condition, BSR and JSR are a call, RTS a pulled word. -/
theorem branches6800 : Obligations.Branches6800 := by
  intro s hp r
  have hbeq : (r.n == r.v) = !(r.n ^^ r.v) := (Bool.not_not _).symm
  refine ⟨fun off => ⟨?bra, ?bhi, ?bls, ?bcc, ?bcs, ?bne, ?beq, ?bvc, ?bvs, ?bpl, ?bmi, ?bge, ?blt, ?bgt, ?ble, ?bsr⟩,
    fun m => ?jmp, fun m => ?jsr, ?rts⟩
  case bra => exact branch68_of (cond := fun _ => true) (show execM6800Bra off s = _ from rfl) hp rfl
  case bhi =>
    rw [← Bool.not_or]
    exact branch68_of (cond := fun r => !(r.c || r.z)) (show execM6800Bhi off s = _ from rfl) hp rfl
  case bls => exact branch68_of (cond := fun r => r.c || r.z) (show execM6800Bls off s = _ from rfl) hp rfl
  case bcc => exact branch68_of (cond := fun r => !r.c) (show execM6800Bcc off s = _ from rfl) hp rfl
  case bcs => exact branch68_of (show execM6800Bcs off s = _ from rfl) hp rfl
  case bne => exact branch68_of (cond := fun r => !r.z) (show execM6800Bne off s = _ from rfl) hp rfl
  case beq => exact branch68_of (show execM6800Beq off s = _ from rfl) hp rfl
  case bvc => exact branch68_of (cond := fun r => !r.v) (show execM6800Bvc off s = _ from rfl) hp rfl
  case bvs => exact branch68_of (show execM6800Bvs off s = _ from rfl) hp rfl
  case bpl => exact branch68_of (cond := fun r => !r.n) (show execM6800Bpl off s = _ from rfl) hp rfl
  case bmi => exact branch68_of (show execM6800Bmi off s = _ from rfl) hp rfl
  case bge =>
    rw [hbeq]
    exact branch68_of (cond := fun r => !(r.n ^^ r.v)) (show execM6800Bge off s = _ from rfl) hp rfl
  case blt => exact branch68_of (cond := fun r => r.n ^^ r.v) (show execM6800Blt off s = _ from rfl) hp rfl
  case bgt =>
    rw [hbeq, ← Bool.not_or]
    exact branch68_of (cond := fun r => !(r.z || (r.n ^^ r.v))) (show execM6800Bgt off s = _ from rfl) hp rfl
  case ble => exact branch68_of (cond := fun r => r.z || (r.n ^^ r.v)) (show execM6800Ble off s = _ from rfl) hp rfl
  case bsr =>
    rw [← relTarget_next]
    exact runs68_of_call (target := fun t => relTarget t.pc off) (show execM6800Bsr off s = _ from rfl) hp
  case jmp =>
    rw [← Ea68.addr_advance s (Instr.m6800Jmp m).size]
    exact runs68_of_run0 (show execM6800Jmp m s = _ from rfl) hp (wrote_nil_of_mem rfl) rfl
  case jsr =>
    rw [← Ea68.addr_advance s (Instr.m6800Jsr m).size]
    exact runs68_of_call (target := (eaOfMem m).addr) (show execM6800Jsr m s = _ from rfl) hp
  case rts =>
    refine runs68_of_run0 (show execM6800Rts s = _ from rfl) hp (wrote_nil_of_mem rfl) ?_
    dsimp only
    rw [pull16At68_eq, pulled16At68_eq]
    rfl

/-- Settles O59: SWI and WAI push the same frame, SWI enters its trap, and RTI pulls a frame. -/
theorem trapAndReturn6800 : Obligations.TrapAndReturn6800 := by
  intro s hp r writes
  have hframe := wrote_trapFrame68 s
  refine ⟨?swi, ?wai, ?rti⟩
  case swi =>
    refine runs68_of_run0 (show execM6800Swi s = _ from rfl) hp (wrote_congr hframe ?_) ?_
    · rw [enter68_eq]
      rfl
    · have hvector : (pushFrame68 (s.advance Instr.m6800Swi.size)).readHighFirst 0xFFFA = _ :=
        readHighFirst_of_wrote hframe _
      rw [enter68_eq, hvector]
      rfl
  case wai =>
    refine ⟨_, show execM6800Wai s = _ from run_of_profile hp, wrote_congr hframe rfl, ?_⟩
    dsimp only
    rw [pushFrame68_eq]
    rfl
  case rti =>
    refine runs68_of_run0 (show execM6800Rti s = _ from rfl) hp (wrote_nil_of_mem (pullFrame68_mem _)) ?_
    rw [pullFrame68_eq]
    rfl

end Sys2Proof.Machine

/-!
# Interrupts, waits and the pins (60_exceptions.md)

With the pins read, an Idle tick goes by the order of R530: HALT, then a WAI wait, then an interrupt, then the fetch. With
the pins ignored no part of a tick reads them (`exec_withPins`, `step_withPins`), since no instruction does.
-/

namespace Sys2Proof.Machine

/-! ### The branches of an Idle tick -/

theorem step_of_serviced {s : State} (hr : s.remaining = 0) (hi : s.params.interrupts = .serviced) :
    step s = servicedTick s := by
  rw [step_of_idle hr, idleTick, hi]

theorem step_of_ignored {s : State} (hr : s.remaining = 0) (hi : s.params.interrupts = .ignored) :
    step s = ignoredTick s := by
  rw [step_of_idle hr, idleTick, hi]

/-- HALT stands before everything else (R525). -/
theorem servicedTick_of_halt {s : State} (hp : s.profile = .m6800) (hh : s.haltLine = true) :
    servicedTick s = .next s := if_pos ⟨hp, hh⟩

/-- A wait never ends where the pins are ignored (R524). -/
theorem ignoredTick_of_waiting {s : State} (hp : s.profile = .m6800) (hw : s.waiting = true) :
    ignoredTick s = .next s := if_pos ⟨hp, hw⟩

/-- A wait stands before interrupt service and the fetch (R523). -/
theorem servicedTick_of_waiting {s : State} (hp : s.profile = .m6800) (hh : s.haltLine = false)
    (hw : s.waiting = true) : servicedTick s = .next (waitTick s) := by
  rw [servicedTick, if_neg (by simp [hh]), if_pos ⟨hp, hw⟩]

/-- An interrupt is serviced in place of a fetch (R512, R522). -/
theorem servicedTick_of_interrupt {s : State} {k : Interrupt}
    (hp : s.profile = .m6800 → s.haltLine = false ∧ s.waiting = false) (hk : interruptToTake s = some k) :
    servicedTick s = .next (service k s) := by
  rw [servicedTick, if_neg fun ⟨h, hh⟩ => by simp [(hp h).1] at hh, if_neg fun ⟨h, hw⟩ => by simp [(hp h).2] at hw, hk]

theorem waitTick_of_none {s : State} (hk : interruptToTake s = none) : waitTick s = s := by
  rw [waitTick, hk]

theorem waitTick_of_some {s : State} {k : Interrupt} (hk : interruptToTake s = some k) :
    waitTick s = wake68 k s := by
  rw [waitTick, hk]

/-! ### Interrupt selection by profile -/

theorem irqMasked_of_m6502 {s : State} (hp : s.profile = .m6502) : s.irqMasked = s.m6502.i := by
  rw [State.irqMasked, hp]

theorem irqMasked_of_m6800 {s : State} (hp : s.profile = .m6800) : s.irqMasked = s.m6800.i := by
  rw [State.irqMasked, hp]

/-- What holds of the interrupt that is taken holds of NMI where one is latched, and else of an IRQ held while I = 0
(R510, R520). -/
theorem nmi_and_irq_of_taken {s : State} {P : Interrupt → Prop} (h : ∀ k, interruptToTake s = some k → P k) :
    (s.nmiPending = true → P .nmi) ∧
    (s.nmiPending = false → s.irqLine = true → s.irqMasked = false → P .irq) :=
  ⟨fun hn => h _ ((interruptToTake_eq_nmi_iff s).mpr hn),
    fun hn hl hm => h _ ((interruptToTake_eq_irq_iff s).mpr ⟨hn, hl, hm⟩)⟩

/-- No interrupt is taken where no NMI is latched and no IRQ is held with I = 0. -/
theorem interruptToTake_eq_none_iff_not (s : State) :
    interruptToTake s = none ↔ s.nmiPending = false ∧ ¬(s.irqLine = true ∧ s.irqMasked = false) := by
  rw [interruptToTake_eq_none_iff, not_and, Bool.not_eq_false]

/-! ### Service on the M6502 -/

/-- The status byte of an interrupt has bit 4 clear and bit 5 set (40_execution_cycle.md R116). -/
theorem frameStatus65_false (r : Regs65) : frameStatus65 r false = (getP r &&& 0xEF#8) ||| 0x20#8 := by
  unfold frameStatus65
  generalize getP r = p
  revert p
  decide

/-- The vectors stand above the stack page, so the frame leaves them (R512). -/
theorem vectorOf65_above_stack (k : Interrupt) : 512 ≤ (vectorOf65 k).toNat ∧ 512 ≤ (vectorOf65 k + 1).toNat := by
  cases k <;> decide

/-- Everything `service65` does. -/
theorem service65_eq (k : Interrupt) (s : State) :
    service65 k s =
      { s with
        nmiPending := if k = .nmi then false else s.nmiPending
        m6502 := { s.m6502 with sp := s.m6502.sp - 3, i := true }
        pc := s.readLowFirst (vectorOf65 k)
        mem := (service65 k s).mem
        remaining := 6 } := by
  obtain ⟨hlow, hhigh⟩ := vectorOf65_above_stack k
  rw [service65, enter65_eq, readLowFirst_pushFrame65 _ _ _ hlow hhigh, acknowledge_eq]
  rfl

theorem wrote_service65 (k : Interrupt) (s : State) :
    Wrote s (service65 k s)
      (frameWrites65 s.params.stackOrder s.m6502.sp s.pc ((getP s.m6502 &&& 0xEF#8) ||| 0x20#8)) := by
  have hw := wrote_pushFrame65 (wrote_nil_of_mem (s.acknowledge_mem k)) s.pc false
  rw [List.append_nil, s.acknowledge_params, s.acknowledge_m6502, frameStatus65_false] at hw
  exact wrote_congr hw (by rw [service65, enter65_eq]; rfl)

/-- A tick that takes an interrupt on the M6502 services it. -/
theorem step_of_interrupt65 {s : State} {k : Interrupt} (hp : s.profile = .m6502) (hr : s.remaining = 0)
    (hi : s.params.interrupts = .serviced) (hk : interruptToTake s = some k) : step s = .next (service65 k s) := by
  rw [step_of_serviced hr hi, servicedTick_of_interrupt (fun h => nomatch hp.symm.trans h) hk, service_of_m6502 hp]

/-- Settles O12: a tick that takes an interrupt is its service, and which interrupt it takes goes by the latch, the pin and
I. -/
theorem interruptService6502 : Obligations.InterruptService6502 := by
  intro s hp hr hi entered
  have hentered (k : Interrupt) (hk : interruptToTake s = some k) : entered k (vectorOf65 k) :=
    ⟨_, step_of_interrupt65 hp hr hi hk, wrote_service65 k s, service65_eq k s⟩
  obtain ⟨hnmi, hirq⟩ := nmi_and_irq_of_taken hentered
  have hnone := interruptToTake_eq_none_iff_not s
  rw [irqMasked_of_m6502 hp] at hirq hnone
  exact ⟨hnmi, hirq, hnone⟩

/-! ### Service on the M6800 -/

/-- The frame of an interrupt: acknowledging it does not touch what is pushed. -/
theorem wrote_serviceFrame68 (k : Interrupt) (s : State) :
    Wrote s (pushFrame68 (s.acknowledge k)) (frameWrites68 s.m6800 s.pc) := by
  have hw := wrote_pushFrame68 (wrote_nil_of_mem (s.acknowledge_mem k))
  rwa [List.append_nil, s.acknowledge_m6800, s.acknowledge_pc] at hw

theorem wrote_service68 (k : Interrupt) (s : State) : Wrote s (service68 k s) (frameWrites68 s.m6800 s.pc) :=
  wrote_congr (wrote_serviceFrame68 k s) (by rw [service68, enter68_eq]; rfl)

/-- Everything `service68` does. -/
theorem service68_eq (k : Interrupt) (s : State) :
    service68 k s =
      { s with
        nmiPending := if k = .nmi then false else s.nmiPending
        m6800 := { s.m6800 with sp := s.m6800.sp - 7, i := true }
        pc := w16 (bytesAfter s (frameWrites68 s.m6800 s.pc) (vectorOf68 k))
          (bytesAfter s (frameWrites68 s.m6800 s.pc) (vectorOf68 k + 1))
        mem := (service68 k s).mem
        remaining := 11 } := by
  rw [service68, enter68_eq, readHighFirst_of_wrote (wrote_serviceFrame68 k s), acknowledge_eq]
  rfl

/-- A tick that takes an interrupt on the M6800 outside a HALT and a wait services it. -/
theorem step_of_interrupt68 {s : State} {k : Interrupt} (hp : s.profile = .m6800) (hr : s.remaining = 0)
    (hi : s.params.interrupts = .serviced) (hh : s.haltLine = false) (hw : s.waiting = false)
    (hk : interruptToTake s = some k) : step s = .next (service68 k s) := by
  rw [step_of_serviced hr hi, servicedTick_of_interrupt (fun _ => ⟨hh, hw⟩) hk, service_of_m6800 hp]

/-- Settles O13: as on the M6502, with the vector read after the frame is stored. -/
theorem interruptService6800 : Obligations.InterruptService6800 := by
  intro s hp hr hi hh hw writes entered
  have hentered (k : Interrupt) (hk : interruptToTake s = some k) : entered k (vectorOf68 k) :=
    ⟨_, step_of_interrupt68 hp hr hi hh hw hk, wrote_service68 k s, service68_eq k s⟩
  obtain ⟨hnmi, hirq⟩ := nmi_and_irq_of_taken hentered
  have hnone := interruptToTake_eq_none_iff_not s
  rw [irqMasked_of_m6800 hp] at hirq hnone
  exact ⟨hnmi, hirq, hnone⟩

/-! ### Waits and HALT -/

/-- Everything `wake68` does: nothing is stored, so the vector is read as memory stood. -/
theorem wake68_eq (k : Interrupt) (s : State) :
    wake68 k s =
      { s with
        nmiPending := if k = .nmi then false else s.nmiPending
        waiting := false
        m6800 := { s.m6800 with i := true }
        pc := s.readHighFirst (vectorOf68 k)
        remaining := s.params.waiWakeCycles - 1 } := by
  rw [wake68, acknowledge_eq]
  rfl

theorem ba_of_waiting {s : State} (hp : s.profile = .m6800) (hw : s.waiting = true) : s.ba = true := by
  rw [State.ba, hp]
  simp [hw]

theorem ba_of_halt {s : State} (hp : s.profile = .m6800) (hh : s.haltLine = true) (hr : s.remaining = 0) :
    s.ba = true := by
  rw [State.ba, hp]
  simp [hh, hr]

/-- Settles O14: a tick of a wait is `waitTick`, which wakes for the interrupt that would be taken. -/
theorem waitTick_spec : Obligations.WaitTick := by
  intro s hp hr hi hh hw woken
  have hstep : step s = .next (waitTick s) := (step_of_serviced hr hi).trans (servicedTick_of_waiting hp hh hw)
  have hwoken (k : Interrupt) (hk : interruptToTake s = some k) : woken k (vectorOf68 k) := by
    rwa [waitTick_of_some hk, wake68_eq] at hstep
  obtain ⟨hnmi, hirq⟩ := nmi_and_irq_of_taken hwoken
  rw [irqMasked_of_m6800 hp] at hirq
  refine ⟨hnmi, hirq, fun hn hl => ⟨?_, ba_of_waiting hp hw⟩⟩
  rw [← irqMasked_of_m6800 hp] at hl
  rwa [waitTick_of_none ((interruptToTake_eq_none_iff s).mpr ⟨hn, hl⟩)] at hstep

/-- Settles O15: HALT is the first check of an Idle tick, and an Executing tick makes none. -/
theorem haltTick : Obligations.HaltTick := fun _ hp hh =>
  ⟨fun hi hr => ⟨(step_of_serviced hr hi).trans (servicedTick_of_halt hp hh), ba_of_halt hp hh hr⟩, step_of_counting⟩

/-! ### The NMI latch -/

/-- Settles O18: the latch is set at the pin's rising edge alone, and service and a wake leave it as the acknowledgment
does. -/
theorem nmiLatch : Obligations.NmiLatch := by
  refine ⟨fun s h => ?edge, fun s h => ?high, fun s => ?low, fun s => ?cleared⟩
  case edge => simp [State.setNmiLine, h]
  case high => simp [State.setNmiLine, ← h]
  case low => simp [State.setNmiLine]
  case cleared =>
    exact ⟨(Keeps.service .nmi s).nmiPending, (Keeps.wake68 .nmi s).nmiPending, s.restart_nmiPending,
      (Keeps.service .irq s).nmiPending, (Keeps.wake68 .irq s).nmiPending⟩

/-! ### Ignored pins -/

/-- The three pins and the NMI latch. -/
structure Pins where
  irq : Bool
  nmi : Bool
  pending : Bool
  halt : Bool

/-- The state with its pins and its latch given. -/
def State.withPins (s : State) (p : Pins) : State :=
  { s with irqLine := p.irq, nmiLine := p.nmi, nmiPending := p.pending, haltLine := p.halt }

/-- The outcome with the pins and the latch of its state given. -/
def resultWithPins (x : Result) (p : Pins) : Result :=
  match x with
  | .next t => .next (t.withPins p)
  | .fault f => .fault f
  | .refused r => .refused r

/-! ### The shared operations do not read the pins -/

theorem push16At65_withPins (w : Word) (s : State) (p : Pins) :
    push16At65 w (s.withPins p) = (push16At65 w s).withPins p := by
  have hparams : (s.withPins p).params = s.params := rfl
  rw [push16At65, push16At65, hparams]
  cases s.params.stackOrder <;> rfl

theorem enter65_withPins (pc : Word) (b : Bool) (vector : Word) (s : State) (p : Pins) :
    enter65 pc b vector (s.withPins p) = (enter65 pc b vector s).withPins p := by
  rw [enter65, enter65, pushFrame65, push16At65_withPins]
  rfl

theorem pullFrame65_withPins (s : State) (p : Pins) : pullFrame65 (s.withPins p) = (pullFrame65 s).withPins p := by
  rw [pullFrame65_eq, pullFrame65_eq]
  rfl

theorem rmwBody65_withPins (dst : Dst65) (f : Byte → Regs65 → Byte × Regs65) (s : State) (p : Pins) :
    rmwBody65 dst f (s.withPins p) = (rmwBody65 dst f s).withPins p := by
  cases dst with
  | acc => rfl
  | mem ea => rfl

theorem pushFrame68_withPins (s : State) (p : Pins) : pushFrame68 (s.withPins p) = (pushFrame68 s).withPins p := by
  have hpush (v : Byte) (t : State) : push68 v (t.withPins p) = (push68 v t).withPins p := rfl
  have h68 : (s.withPins p).m6800 = s.m6800 := rfl
  have hpc : (s.withPins p).pc = s.pc := rfl
  simp only [pushFrame68, push16At68, h68, hpc, hpush]

theorem enter68_withPins (vector : Word) (s : State) (p : Pins) :
    enter68 vector (s.withPins p) = (enter68 vector s).withPins p := by
  rw [enter68, enter68, pushFrame68_withPins]
  rfl

theorem pullFrame68_withPins (s : State) (p : Pins) : pullFrame68 (s.withPins p) = (pullFrame68 s).withPins p := by
  rw [pullFrame68_eq, pullFrame68_eq]
  rfl

theorem rmwBody68_withPins (dst : Dst68) (f : Byte → Regs68 → Byte × Regs68) (s : State) (p : Pins) :
    rmwBody68 dst f (s.withPins p) = (rmwBody68 dst f s).withPins p := by
  cases dst with
  | accA => rfl
  | accB => rfl
  | mem ea => rfl

/-- `run` of a body that does not read the pins, with extra cycles that do not depend on them. -/
theorem run_withPins {i : Instr} {extra : Nat} {body body' : State → State} {s : State} {p : Pins}
    (h : body' ((s.advance i.size).withPins p) = (body (s.advance i.size)).withPins p) :
    run i extra body' (s.withPins p) = resultWithPins (run i extra body s) p := by
  by_cases hp : s.profile = i.profile
  · rw [run_of_profile hp, run_of_profile (show (s.withPins p).profile = _ from hp)]
    exact congrArg (fun t => Host.Outcome.next (State.charge t (s.cyclesOf i + extra))) h
  · rw [run, run, if_neg hp, if_neg (show (s.withPins p).profile ≠ _ from hp)]
    rfl

/-! ### Each shape of instruction -/

section
variable (i : Instr) (s : State) (p : Pins)

theorem regs65_withPins (f : Regs65 → Regs65) :
    regs65 i f (s.withPins p) = resultWithPins (regs65 i f s) p := run_withPins rfl

theorem read65_withPins (src : Src65) (f : Byte → Regs65 → Regs65) :
    read65 i src f (s.withPins p) = resultWithPins (read65 i src f s) p := run_withPins rfl

theorem store65_withPins (ea : Ea65) (value : Regs65 → Byte) :
    store65 i ea value (s.withPins p) = resultWithPins (store65 i ea value s) p := run_withPins rfl

theorem rmw65_withPins (dst : Dst65) (f : Byte → Regs65 → Byte × Regs65) :
    rmw65 i dst f (s.withPins p) = resultWithPins (rmw65 i dst f s) p := run_withPins (rmwBody65_withPins _ _ _ _)

theorem branch65_withPins (off : Byte) (cond : Regs65 → Bool) :
    branch65 i off cond (s.withPins p) = resultWithPins (branch65 i off cond s) p := by
  refine run_withPins ?_
  rw [apply_ite (State.withPins · p)]
  rfl

theorem regs68_withPins (f : Regs68 → Regs68) :
    regs68 i f (s.withPins p) = resultWithPins (regs68 i f s) p := run_withPins rfl

theorem read68_withPins (src : Src68) (f : Byte → Regs68 → Regs68) :
    read68 i src f (s.withPins p) = resultWithPins (read68 i src f s) p := run_withPins rfl

theorem read68W_withPins (src : Src68W) (f : Word → Regs68 → Regs68) :
    read68W i src f (s.withPins p) = resultWithPins (read68W i src f s) p := run_withPins rfl

theorem store68_withPins (ea : Ea68) (value : Regs68 → Byte) :
    store68 i ea value (s.withPins p) = resultWithPins (store68 i ea value s) p := run_withPins rfl

theorem store68W_withPins (ea : Ea68) (value : Regs68 → Word) :
    store68W i ea value (s.withPins p) = resultWithPins (store68W i ea value s) p := run_withPins rfl

theorem rmw68_withPins (dst : Dst68) (f : Byte → Regs68 → Byte × Regs68) :
    rmw68 i dst f (s.withPins p) = resultWithPins (rmw68 i dst f s) p := run_withPins (rmwBody68_withPins _ _ _ _)

theorem branch68_withPins (off : Byte) (cond : Regs68 → Bool) :
    branch68 i off cond (s.withPins p) = resultWithPins (branch68 i off cond s) p := by
  refine run_withPins ?_
  rw [apply_ite (State.withPins · p)]
  rfl

/-- No instruction reads a pin or the latch, and none changes one. -/
theorem exec_withPins : exec i (s.withPins p) = resultWithPins (exec i s) p := by
  cases i <;> dsimp only [exec]
  case m6502Lda | m6502Ldx | m6502Ldy | m6502Adc | m6502Sbc | m6502And | m6502Ora | m6502Eor | m6502Bit | m6502Cmp |
      m6502Cpx | m6502Cpy =>
    exact read65_withPins ..
  case m6502Sta | m6502Stx | m6502Sty => exact store65_withPins ..
  case m6502Tax | m6502Tay | m6502Txa | m6502Tya | m6502Tsx | m6502Txs | m6502Inx | m6502Iny | m6502Dex | m6502Dey |
      m6502Clc | m6502Sec | m6502Cli | m6502Sei | m6502Cld | m6502Sed | m6502Clv =>
    exact regs65_withPins ..
  case m6502Inc | m6502Dec | m6502Asl | m6502Lsr | m6502Rol | m6502Ror => exact rmw65_withPins ..
  case m6502Bpl | m6502Bmi | m6502Bvc | m6502Bvs | m6502Bcc | m6502Bcs | m6502Bne | m6502Beq =>
    exact branch65_withPins ..
  case m6502Jsr =>
    refine run_withPins ?_
    dsimp only
    rw [push16At65_withPins]
    rfl
  case m6502Brk => exact run_withPins (enter65_withPins ..)
  case m6502Rti => exact run_withPins (pullFrame65_withPins ..)
  case m6800Ldaa | m6800Ldab | m6800Adda | m6800Addb | m6800Adca | m6800Adcb | m6800Suba | m6800Subb | m6800Sbca |
      m6800Sbcb | m6800Cmpa | m6800Cmpb | m6800Anda | m6800Andb | m6800Bita | m6800Bitb | m6800Eora | m6800Eorb |
      m6800Oraa | m6800Orab | m6800Tst =>
    exact read68_withPins ..
  case m6800Lds | m6800Ldx | m6800Cpx => exact read68W_withPins ..
  case m6800Staa | m6800Stab => exact store68_withPins ..
  case m6800Sts | m6800Stx => exact store68W_withPins ..
  case m6800Tab | m6800Tba | m6800Tap | m6800Tpa | m6800Tsx | m6800Txs | m6800Inx | m6800Dex | m6800Ins | m6800Des |
      m6800Aba | m6800Sba | m6800Cba | m6800Clra | m6800Clrb | m6800Tsta | m6800Tstb | m6800Clc | m6800Sec | m6800Cli |
      m6800Sei | m6800Clv | m6800Sev =>
    exact regs68_withPins ..
  case m6800Nega | m6800Negb | m6800Neg | m6800Coma | m6800Comb | m6800Com | m6800Inca | m6800Incb | m6800Inc |
      m6800Deca | m6800Decb | m6800Dec | m6800Asla | m6800Aslb | m6800Asl | m6800Asra | m6800Asrb | m6800Asr |
      m6800Lsra | m6800Lsrb | m6800Lsr | m6800Rola | m6800Rolb | m6800Rol | m6800Rora | m6800Rorb | m6800Ror =>
    exact rmw68_withPins ..
  case m6800Bra | m6800Bhi | m6800Bls | m6800Bcc | m6800Bcs | m6800Bne | m6800Beq | m6800Bvc | m6800Bvs | m6800Bpl |
      m6800Bmi | m6800Bge | m6800Blt | m6800Bgt | m6800Ble =>
    exact branch68_withPins ..
  case m6800Rti => exact run_withPins (pullFrame68_withPins ..)
  case m6800Swi => exact run_withPins (enter68_withPins ..)
  case m6800Wai => exact run_withPins (congrArg (fun t : State => { t with waiting := true }) (pushFrame68_withPins ..))
  case m6502Jmp | m6502Rts | m6502Pha | m6502Php | m6502Pla | m6502Plp | m6502Nop | m6800Psha | m6800Pshb | m6800Pula |
      m6800Pulb | m6800Daa | m6800Clr | m6800Bsr | m6800Jmp | m6800Jsr | m6800Rts | m6800Nop =>
    refine run_withPins ?_
    rfl

/-! ### A tick -/

theorem fetchAndExecute_withPins : fetchAndExecute (s.withPins p) = resultWithPins (fetchAndExecute s) p := by
  have hf : (s.withPins p).fetched = s.fetched := rfl
  rw [fetchAndExecute, fetchAndExecute, hf]
  cases s.fetched with
  | none => rfl
  | some i =>
    dsimp only
    rw [apply_ite (resultWithPins · p), exec_withPins]
    rfl

theorem ignoredTick_withPins : ignoredTick (s.withPins p) = resultWithPins (ignoredTick s) p := by
  rw [ignoredTick, ignoredTick, apply_ite (resultWithPins · p), fetchAndExecute_withPins]
  rfl

end

/-- With the pins ignored a tick neither reads nor changes a pin or the latch (R524). -/
theorem step_withPins {s : State} (hi : s.params.interrupts = .ignored) (p : Pins) :
    step (s.withPins p) = resultWithPins (step s) p := by
  obtain hr | hr := s.remaining.eq_zero_or_pos
  · rw [step_of_ignored hr hi, step_of_ignored (s := s.withPins p) hr hi, ignoredTick_withPins]
  · rw [step_of_counting hr, step_of_counting (s := s.withPins p) hr]
    rfl

/-- Settles O16: a wait is the only check of an ignored tick before its fetch, and a tick commutes with any pin setting. -/
theorem ignoredPins : Obligations.IgnoredPins := by
  intro s hi
  refine ⟨fun hp hw hr => ?wait, fun irq nmi pending halt => ?withPins⟩
  case wait => exact (step_of_ignored hr hi).trans (ignoredTick_of_waiting hp hw)
  case withPins =>
    refine (step_withPins hi ⟨irq, nmi, pending, halt⟩).trans ?_
    cases step s <;> rfl

end Sys2Proof.Machine

/-!
# Independence of the cycle counts (70_reset_and_hazards.md)

No architectural result depends on a cycle count (R631): leaving the cycle counts out of a state
commutes with the effects of every instruction, so it does not show in the outcome of an instruction or of a fetch.
-/

namespace Sys2Proof.Machine

/-! ### The shared operations do not read the cycle counts -/

theorem push16At65_untimed (w : Word) (s : State) : push16At65 w s.untimed = (push16At65 w s).untimed := by
  have horder : s.untimed.params.stackOrder = s.params.stackOrder := rfl
  rw [push16At65, push16At65, horder]
  cases s.params.stackOrder <;> rfl

theorem enter65_untimed (pc : Word) (b : Bool) (vector : Word) (s : State) :
    enter65 pc b vector s.untimed = (enter65 pc b vector s).untimed := by
  rw [enter65, enter65, pushFrame65, push16At65_untimed]
  rfl

theorem pullFrame65_untimed (s : State) : pullFrame65 s.untimed = (pullFrame65 s).untimed := by
  rw [pullFrame65_eq, pullFrame65_eq]
  rfl

theorem rmwBody65_untimed (dst : Dst65) (f : Byte → Regs65 → Byte × Regs65) (s : State) :
    rmwBody65 dst f s.untimed = (rmwBody65 dst f s).untimed := by
  cases dst <;> rfl

theorem pushFrame68_untimed (s : State) : pushFrame68 s.untimed = (pushFrame68 s).untimed := by
  have hpush (v : Byte) (t : State) : push68 v t.untimed = (push68 v t).untimed := rfl
  have h68 : s.untimed.m6800 = s.m6800 := rfl
  have hpc : s.untimed.pc = s.pc := rfl
  simp only [pushFrame68, push16At68, h68, hpc, hpush]

theorem enter68_untimed (vector : Word) (s : State) : enter68 vector s.untimed = (enter68 vector s).untimed := by
  rw [enter68, enter68, pushFrame68_untimed]
  rfl

theorem pullFrame68_untimed (s : State) : pullFrame68 s.untimed = (pullFrame68 s).untimed := by
  rw [pullFrame68_eq, pullFrame68_eq]
  rfl

theorem rmwBody68_untimed (dst : Dst68) (f : Byte → Regs68 → Byte × Regs68) (s : State) :
    rmwBody68 dst f s.untimed = (rmwBody68 dst f s).untimed := by
  cases dst <;> rfl

/-! ### An instruction -/

theorem State.untimed_untimed (s : State) : s.untimed.untimed = s.untimed := rfl

/-- `run` of a body that does not read the cycle counts: the countdown it sets, from any base and extra cycles, is left out
of the outcome. -/
theorem run_untimed {i : Instr} {extra extra' : Nat} {body body' : State → State} {s : State}
    (h : body' (s.advance i.size).untimed = (body (s.advance i.size)).untimed) :
    untimedResult (run i extra' body' s.untimed) = untimedResult (run i extra body s) := by
  by_cases hp : s.profile = i.profile
  · rw [run_of_profile hp, run_of_profile (show s.untimed.profile = _ from hp)]
    have hu := congrArg State.untimed h
    rw [State.untimed_untimed] at hu
    exact congrArg Host.Outcome.next hu
  · rw [run, run, if_neg hp, if_neg (show s.untimed.profile ≠ _ from hp)]

section
variable (i : Instr) (s : State)

theorem regs65_untimed (f : Regs65 → Regs65) :
    untimedResult (regs65 i f s.untimed) = untimedResult (regs65 i f s) := run_untimed rfl

theorem read65_untimed (src : Src65) (f : Byte → Regs65 → Regs65) :
    untimedResult (read65 i src f s.untimed) = untimedResult (read65 i src f s) := run_untimed rfl

theorem store65_untimed (ea : Ea65) (value : Regs65 → Byte) :
    untimedResult (store65 i ea value s.untimed) = untimedResult (store65 i ea value s) := run_untimed rfl

theorem rmw65_untimed (dst : Dst65) (f : Byte → Regs65 → Byte × Regs65) :
    untimedResult (rmw65 i dst f s.untimed) = untimedResult (rmw65 i dst f s) :=
  run_untimed (rmwBody65_untimed ..)

theorem branch65_untimed (off : Byte) (cond : Regs65 → Bool) :
    untimedResult (branch65 i off cond s.untimed) = untimedResult (branch65 i off cond s) := by
  refine run_untimed ?_
  rw [apply_ite State.untimed]
  rfl

theorem regs68_untimed (f : Regs68 → Regs68) :
    untimedResult (regs68 i f s.untimed) = untimedResult (regs68 i f s) := run_untimed rfl

theorem read68_untimed (src : Src68) (f : Byte → Regs68 → Regs68) :
    untimedResult (read68 i src f s.untimed) = untimedResult (read68 i src f s) := run_untimed rfl

theorem read68W_untimed (src : Src68W) (f : Word → Regs68 → Regs68) :
    untimedResult (read68W i src f s.untimed) = untimedResult (read68W i src f s) := run_untimed rfl

theorem store68_untimed (ea : Ea68) (value : Regs68 → Byte) :
    untimedResult (store68 i ea value s.untimed) = untimedResult (store68 i ea value s) := run_untimed rfl

theorem store68W_untimed (ea : Ea68) (value : Regs68 → Word) :
    untimedResult (store68W i ea value s.untimed) = untimedResult (store68W i ea value s) := run_untimed rfl

theorem rmw68_untimed (dst : Dst68) (f : Byte → Regs68 → Byte × Regs68) :
    untimedResult (rmw68 i dst f s.untimed) = untimedResult (rmw68 i dst f s) :=
  run_untimed (rmwBody68_untimed ..)

theorem branch68_untimed (off : Byte) (cond : Regs68 → Bool) :
    untimedResult (branch68 i off cond s.untimed) = untimedResult (branch68 i off cond s) := by
  refine run_untimed ?_
  rw [apply_ite State.untimed]
  rfl

/-- No instruction reads a cycle count into anything but the countdown. -/
theorem exec_untimed : untimedResult (exec i s.untimed) = untimedResult (exec i s) := by
  cases i <;> dsimp only [exec]
  case m6502Lda | m6502Ldx | m6502Ldy | m6502Adc | m6502Sbc | m6502And | m6502Ora | m6502Eor | m6502Bit | m6502Cmp |
      m6502Cpx | m6502Cpy =>
    exact read65_untimed ..
  case m6502Sta | m6502Stx | m6502Sty => exact store65_untimed ..
  case m6502Inc | m6502Dec | m6502Asl | m6502Lsr | m6502Rol | m6502Ror => exact rmw65_untimed ..
  case m6502Bpl | m6502Bmi | m6502Bvc | m6502Bvs | m6502Bcc | m6502Bcs | m6502Bne | m6502Beq => exact branch65_untimed ..
  case m6502Jsr =>
    refine run_untimed ?_
    dsimp only
    rw [push16At65_untimed]
    rfl
  case m6502Brk => exact run_untimed (enter65_untimed ..)
  case m6502Rti => exact run_untimed (pullFrame65_untimed ..)
  case m6502Jmp | m6502Rts | m6502Pha | m6502Php | m6502Pla | m6502Plp | m6502Nop =>
    refine run_untimed ?_
    rfl
  case m6502Tax | m6502Tay | m6502Txa | m6502Tya | m6502Tsx | m6502Txs | m6502Inx | m6502Iny | m6502Dex | m6502Dey |
      m6502Clc | m6502Sec | m6502Cli | m6502Sei | m6502Cld | m6502Sed | m6502Clv =>
    exact regs65_untimed ..
  case m6800Ldaa | m6800Ldab | m6800Adda | m6800Addb | m6800Adca | m6800Adcb | m6800Suba | m6800Subb | m6800Sbca |
      m6800Sbcb | m6800Cmpa | m6800Cmpb | m6800Anda | m6800Andb | m6800Bita | m6800Bitb | m6800Eora | m6800Eorb |
      m6800Oraa | m6800Orab | m6800Tst =>
    exact read68_untimed ..
  case m6800Lds | m6800Ldx | m6800Cpx => exact read68W_untimed ..
  case m6800Staa | m6800Stab => exact store68_untimed ..
  case m6800Sts | m6800Stx => exact store68W_untimed ..
  case m6800Nega | m6800Negb | m6800Neg | m6800Coma | m6800Comb | m6800Com | m6800Inca | m6800Incb | m6800Inc |
      m6800Deca | m6800Decb | m6800Dec | m6800Asla | m6800Aslb | m6800Asl | m6800Asra | m6800Asrb | m6800Asr |
      m6800Lsra | m6800Lsrb | m6800Lsr | m6800Rola | m6800Rolb | m6800Rol | m6800Rora | m6800Rorb | m6800Ror =>
    exact rmw68_untimed ..
  case m6800Bra | m6800Bhi | m6800Bls | m6800Bcc | m6800Bcs | m6800Bne | m6800Beq | m6800Bvc | m6800Bvs | m6800Bpl |
      m6800Bmi | m6800Bge | m6800Blt | m6800Bgt | m6800Ble =>
    exact branch68_untimed ..
  case m6800Rti => exact run_untimed (pullFrame68_untimed ..)
  case m6800Swi => exact run_untimed (enter68_untimed ..)
  case m6800Wai => exact run_untimed (congrArg (fun t : State => { t with waiting := true }) (pushFrame68_untimed ..))
  case m6800Psha | m6800Pshb | m6800Pula | m6800Pulb | m6800Daa | m6800Clr | m6800Bsr | m6800Jmp | m6800Jsr | m6800Rts |
      m6800Nop =>
    refine run_untimed ?_
    rfl
  case m6800Tab | m6800Tba | m6800Tap | m6800Tpa | m6800Tsx | m6800Txs | m6800Inx | m6800Dex | m6800Ins | m6800Des |
      m6800Aba | m6800Sba | m6800Cba | m6800Clra | m6800Clrb | m6800Tsta | m6800Tstb | m6800Clc | m6800Sec | m6800Cli |
      m6800Sei | m6800Clv | m6800Sev =>
    exact regs68_untimed ..

/-- Neither the decoder nor P_UNIMPLEMENTED depends on a cycle count. -/
theorem fetchAndExecute_untimed : untimedResult (fetchAndExecute s.untimed) = untimedResult (fetchAndExecute s) := by
  have hf : s.untimed.fetched = s.fetched := rfl
  rw [fetchAndExecute, fetchAndExecute, hf]
  cases s.fetched with
  | none => rfl
  | some i =>
    dsimp only
    rw [apply_ite untimedResult, apply_ite untimedResult, exec_untimed]
    rfl

end

/-- Settles O30: an instruction and a fetch have the outcome, cycle counts left out, that they have from the state without
cycle counts, and the two states are the same without them. -/
theorem independentOfCycleCounts : Obligations.IndependentOfCycleCounts := by
  refine ⟨fun i s s2 h => ?exec, fun s s2 h hs hs2 => ?fetch⟩
  case exec => rw [← exec_untimed i s, h, exec_untimed]
  case fetch =>
    rw [step_of_fetches hs, step_of_fetches hs2, ← fetchAndExecute_untimed s, h, fetchAndExecute_untimed]

end Sys2Proof.Machine
